-- ==== Sys2Proof/Word.lean ====
section
/-! DEFINITION. Word and table types of the Cavrith D24 model.

Only what the spec treats as bits is a bit vector: bytes of a frame, 16-bit values carried in two's
complement, 16-bit sequence numbers that wrap, tags and masks. Counts, envelope units and timers are
natural numbers. -/

namespace Sys2Proof

/-- One byte of a frame (R182). -/
abbrev Byte := BitVec 8

/-- A signed 16-bit value: drive units or feedback units (R182). Its number is its `toInt`. -/
abbrev Du := BitVec 16

/-- A 16-bit sequence number: 65535 is followed by 0 (R3, R54, R108). -/
abbrev Seq := BitVec 16

/-- A group number, 0 to 3. -/
abbrev GroupIx := Fin 4

/-- A lane of a group, 0 to 5. -/
abbrev LaneIx := Fin 6

/-- A stream map index, 0 to 31. -/
abbrev MapIx := Fin 32

/-- A limit set index, 0 to 15. -/
abbrev SetIx := Fin 16

/-- A table of `n` like records, addressed by index. -/
structure Tab (n : Nat) (α : Type) where
  vec : Vector α n
  deriving DecidableEq, Repr

namespace Tab

variable {n : Nat} {α β : Type}

/-- The record at an index. -/
def get (t : Tab n α) (i : Fin n) : α := t.vec[i.val]

/-- The table with the record at one index replaced. -/
def set (t : Tab n α) (i : Fin n) (x : α) : Tab n α := ⟨t.vec.set i.val x i.isLt⟩

/-- The table whose record at each index is given by a function. -/
def of (f : Fin n → α) : Tab n α := ⟨Vector.ofFn f⟩

/-- The table holding one record everywhere. -/
def fill (x : α) : Tab n α := of fun _ => x

/-- Every record replaced, each seeing its index. -/
def mapIx (f : Fin n → α → β) (t : Tab n α) : Tab n β := of fun i => f i (t.get i)

/-- Every record replaced. -/
def map (f : α → β) (t : Tab n α) : Tab n β := of fun i => f (t.get i)

/-- The record at one index replaced by a function of itself. -/
def modify (t : Tab n α) (i : Fin n) (f : α → α) : Tab n α := t.set i (f (t.get i))

end Tab

/-- The six lanes in ascending order. -/
def lanes : List LaneIx := [0, 1, 2, 3, 4, 5]

/-- The four groups in ascending order. -/
def groupList : List GroupIx := [0, 1, 2, 3]

end Sys2Proof
end

