-- ==== Sys2Proof/Syntax.lean ====
section
/-! DEFINITION. The commands of the D24: one constructor of `Instr` for each row of
spec/opcode_table.json, in the table's order.

The part fetches nothing. A command is one of its indivisible events (spec/95_what_each_step_holds.md),
brought by the world: a frame, a playout, a tick, a line change, the completion of a sending, or the
executor's take of a request. A row that names something which comes about inside a larger step
(STARVE_EVENT, RETRY_TIMER_EXPIRY and the like) is that larger step, taken where it does come about
(notes/assumptions/2.md). -/

namespace Sys2Proof

/-- A playback port. -/
inductive Port where
  | a
  | b
  deriving DecidableEq, Repr

/-- A tick of the part's timebase, and the unit of the watchdog (R131, R132). -/
inductive TickUnit where
  | ms10
  | s1
  deriving DecidableEq, Repr

/-- The three strap values, as the pins carry them or the strap store holds them (R167). -/
structure Straps where
  unitId : BitVec 2
  defmap : Bool
  wddef : Bool
  deriving DecidableEq, Repr

/-- The levels on the part's inputs: the strap pins (R167) and the INTERLOCK line (R137). -/
structure Pins where
  straps : Straps
  interlockOpen : Bool
  deriving DecidableEq, Repr

/-- The three channel monitors of a limit set (R117). -/
inductive ChannelKind where
  | position
  | force
  | error
  deriving DecidableEq, Repr

/-- The commands: one constructor per row of spec/opcode_table.json.

The rows of management requests carry no operands here: each is the executor's take (R163) of the
request that stands at the head of a port's request queue, and the request's operands are the bytes
that DOWNSTREAM_FRAME brought there (notes/assumptions/1.md). -/
inductive Instr where
  /-- POWER_ON (R167), with the levels found on the inputs. -/
  | powerOn (pins : Pins)
  /-- DOWNSTREAM_FRAME (R30): a frame of these bytes delimited on a port. -/
  | downstreamFrame (port : Port) (bytes : List Byte)
  | identify
  | keepalive
  | readStatus
  | writeMapEntry
  | readMapEntry
  | clearMapEntry
  | writePortPolicy
  | readPortPolicy
  | writeProfile
  | readProfile
  | writeLimitSet
  | readLimitSet
  | writeGroupConfig
  | readGroupConfig
  | setRate
  | genConfig
  | arm
  | disarm
  | start
  | stop
  | abort
  | setLevel
  | genStart
  | readGroupStatus
  | readFaults
  | clearFaults
  | setAlertMask
  | setWatchdog
  | forceWatchdog
  | readPortStats
  | readGroupStats
  | readChannelStats
  | readServoStats
  | setClassAction
  | readClassActions
  | resetPart
  | undefinedOpcodeRequest
  /-- PLAYOUT (R8) of a group. -/
  | playout (group : GroupIx)
  /-- RETRY_TIMER_EXPIRY (R149): the playout of a group at which its retry timer reaches 0. -/
  | retryTimerExpiry (group : GroupIx)
  /-- BURST_COMPLETION (R97): the playout of a group that brings its generated count to the programmed count. -/
  | burstCompletion (group : GroupIx)
  /-- STARVE_EVENT (R64): the playout of a group whose underrun brings the streak to the starvation limit. -/
  | starveEvent (group : GroupIx)
  /-- CLAMP_PERSIST_EVENT (R85): the playout at which a lane's persistence counter reaches the limit. -/
  | clampPersistEvent (group : GroupIx) (lane : LaneIx)
  /-- FB_LOSS_EVENT (R127): the playout that takes the playouts-since-feedback count above its limit. -/
  | fbLossEvent (group : GroupIx)
  /-- TELEMETRY_RECORD (R179): the playout at which the telemetry decimation counter reaches K. -/
  | telemetryRecord (group : GroupIx)
  /-- FEEDBACK_FRAME (R105): a frame of these bytes delimited on the servo link. -/
  | feedbackFrame (bytes : List Byte)
  /-- CHANNEL_MONITOR_TRIP (R122): the feedback frame that trips a channel monitor of a lane. -/
  | channelMonitorTrip (lane : LaneIx) (monitor : ChannelKind) (bytes : List Byte)
  /-- WATCHDOG_TICK (R132): a timebase tick of one unit. -/
  | watchdogTick (unit : TickUnit)
  /-- WATCHDOG_EXPIRY (R132): the tick that brings the remaining count to 0. -/
  | watchdogExpiry
  | interlockOpening
  | interlockClosing
  /-- UPSTREAM_SEND_COMPLETE (R181) of a port, with the levels on the strap pins at that moment: a
  RESAMPLE reset that lands in it samples them (R170; notes/assumptions/3.md). -/
  | upstreamSendComplete (port : Port) (straps : Straps)
  deriving DecidableEq, Repr

end Sys2Proof
end

