-- ==== Sys2Proof/Decode.lean ====
section
/-! DEFINITION. The command a table word spells. No row of spec/opcode_table.json gives bits: a command
of this part is an event of the world, not a word. The frames and requests that do have bytes are read
in Machine/Bytes.lean, Machine/Operands.lean and Machine/Ingress.lean. -/

namespace Sys2Proof

/-- No row of the table gives bits, so no word spells a command. -/
def decodeTableWord (_nbits _w : Nat) : Option Instr := none

end Sys2Proof
end

