-- ==== Sys2Proof/Config.lean ====
section
/-! DEFINITION. What the spec fixes for revision 1 of the part, and the one value it leaves open.

The fixed numbers cite their rules. `unstatedObserved` is the only free value of this model: it has
no usable body, so nothing can be proved about its value (notes/assumptions/5.md). -/

namespace Sys2Proof.Config

/-- Full scale of E, Lv, A and F in eu (scope, Units). -/
def fullScale : Nat := 4096

/-- Entries a replay queue holds at most (R52). -/
def queueCapacity : Nat := 64

/-- Requests, responses and echoes a port queue holds at most (R162, R165). -/
def portQueueCapacity : Nat := 4

/-- Where every statistics counter and run tally stops (R5, R177). -/
def counterMax : Nat := 4294967295

/-- Where the consecutive-underrun, playouts-since-feedback and clamp persistence counts stop (R1, R72). -/
def countMax : Nat := 65535

/-- The lag window of feedback echoes (R109). -/
def lagWindow : Nat := 3

/-- Where the generated count stops (R97). -/
def genCountMax : Nat := 16777215

/-- Where a deglitch count stops (R120). -/
def deglitchMax : Nat := 255

/-- The seed that stands for a seed operand of 0, and the seed after power-on (R91, R92). -/
def defaultSeed : BitVec 16 := 0xACE1

/-- The tag of every telemetry record sent upstream (R185). -/
def telemetryTag : BitVec 12 := 0xFFE

/-- FREE VALUE. The two bytes of READ_FAULTS' observed value when a first-trip record is present and
holds no observed value: R174 gives the field and does not say what it then carries. The argument
numbers the occasions, so two occasions need not agree. -/
opaque unstatedObserved : Nat → BitVec 16

end Sys2Proof.Config
end

