-- ==== Sys2Proof/Machine/Types.lean ====
section
/-! DEFINITION. The records the part's blocks hold, chapter by chapter. Enumerations carry names, not
codes; Operands.lean holds the codes that cross a port. -/

namespace Sys2Proof.Machine

/-! ## Fault kinds and trips (Chapters 7 and 8) -/

/-- A monitor's mode (R28, R117). -/
inductive Mode where
  | latch
  | retry
  | report
  | off
  deriving DecidableEq, Repr

/-- What an action trip does to the outputs (R28, R144). -/
inductive Action where
  | park
  | hold
  | null
  deriving DecidableEq, Repr

/-- A monitor's mode with its action. -/
structure Treatment where
  mode : Mode
  action : Action
  deriving DecidableEq, Repr

/-- The ten fault kinds (R139). -/
inductive Kind where
  | position
  | force
  | error
  | clampPersist
  | starve
  | seqBreak
  | fbLoss
  | watchdog
  | interlock
  | flow
  deriving DecidableEq, Repr

/-- The class of a latched kind (R140). -/
inductive FaultClass where
  | action
  | report
  deriving DecidableEq, Repr

/-- The state a group re-enters after a successful retry wait (R1). -/
inductive Resume where
  | armed
  | fadeIn
  deriving DecidableEq, Repr

/-- The state an episode ends in (R1, R143). -/
inductive EndTarget where
  | idle
  | retryWait
  | faulted
  deriving DecidableEq, Repr

/-- A monitor event (R115). -/
structure MonEvent where
  kind : Kind
  lane : Option LaneIx
  mode : Mode
  action : Option Action
  observed : Option Du
  deriving DecidableEq, Repr

/-- The first-trip record (R141). -/
structure FirstTrip where
  kind : Kind
  lane : Option LaneIx
  outSeq : Seq
  observed : Option Du
  mode : Mode
  deriving DecidableEq, Repr

/-! ## Replay groups, queues and generator (Chapters 1, 3 and 5) -/

/-- The nine group states (R1). -/
inductive GState where
  | idle
  | armed
  | fadeIn
  | run
  | fadeOut
  | parking
  | held
  | retryWait
  | faulted
  deriving DecidableEq, Repr

/-- Where a group's drive samples come from (R1). -/
inductive Source where
  | stream
  | generator
  deriving DecidableEq, Repr

/-- A replay queue entry (R53). -/
structure QEntry where
  seq : Option Seq
  filler : Bool
  slots : Tab 6 (Option Du)
  deriving DecidableEq, Repr

/-- The four run tallies (R5). -/
structure Tallies where
  enqueued : Nat
  played : Nat
  skipped : Nat
  flushed : Nat
  deriving DecidableEq, Repr

/-- A group's configuration record (R28). -/
structure GroupConfig where
  fadeStep : Nat
  parkStep : Nat
  prefill : Nat
  starveLimit : Nat
  gapFill : Nat
  fbLimit : Nat
  clampLimit : Nat
  retryTime : Nat
  retryLimit : Nat
  starve : Treatment
  seqBreak : Treatment
  fbLoss : Treatment
  clampPersist : Treatment
  watchdog : Treatment
  flowLimit : Nat
  attStep : Nat
  attFloor : Nat
  telemK : Nat
  telemPort : Port
  deriving DecidableEq, Repr

/-- The four test patterns (R91). -/
inductive Pattern where
  | constant
  | square
  | ramp
  | noise
  deriving DecidableEq, Repr

/-- The configuration part of a generator record (R91); `count` is `none` for CONTINUOUS. -/
structure GenConfig where
  pattern : Pattern
  level : Du
  period : Nat
  seed : BitVec 16
  count : Option Nat
  mask : BitVec 6
  deriving DecidableEq, Repr

/-- The runtime part of a generator record (R91). -/
structure GenRun where
  phase : Nat
  noise : BitVec 16
  count : Nat
  ended : Bool
  deriving DecidableEq, Repr

/-! ## Channels (Chapters 4 and 7) -/

/-- A channel's polarity (R70). -/
inductive Polarity where
  | normal
  | inverted
  deriving DecidableEq, Repr

/-- A channel profile (R70). -/
structure Profile where
  gain : Nat
  offset : Du
  polarity : Polarity
  slew : Nat
  lmin : Du
  lmax : Du
  park : Du
  limitSet : SetIx
  weight : Nat
  deriving DecidableEq, Repr

/-- One channel monitor's record (R120). -/
structure MonRec where
  cond : Bool
  count : Nat
  tripped : Bool
  deriving DecidableEq, Repr

/-- A channel: its profile (R70), runtime values (R72), trim (R48), monitor records (R120) and
counters (R86). -/
structure Channel where
  profile : Profile
  yPrev : Du
  d : Du
  x : Du
  trim : Du
  slewFlag : Bool
  rangeFlag : Bool
  persist : Nat
  position : MonRec
  force : MonRec
  error : MonRec
  slewClamps : Nat
  rangeClamps : Nat
  deriving DecidableEq, Repr

/-- One monitor of a limit set, less its thresholds (R117). -/
structure LimitMon where
  deglitch : Nat
  mode : Mode
  action : Action
  deriving DecidableEq, Repr

/-- A limit set (R117). -/
structure LimitSet where
  posLo : Du
  posHi : Du
  forceMax : Nat
  errMax : Nat
  position : LimitMon
  force : LimitMon
  error : LimitMon
  deriving DecidableEq, Repr

/-- The triple a feedback frame carries for a lane (R187). -/
structure Triple where
  position : Du
  force : Du
  error : Du
  deriving DecidableEq, Repr

/-! ## The group (Chapter 1) -/

/-- A group's statistics counters, in the order of the table of Chapter 10. -/
structure GroupCounters where
  playouts : Nat
  underruns : Nat
  overflowDrops : Nat
  staleDrops : Nat
  gapFrames : Nat
  fillerEntries : Nat
  seqBreaks : Nat
  unboundDrops : Nat
  refusedDrops : Nat
  feedbackAccepted : Nat
  feedbackStale : Nat
  trips : Nat
  deriving DecidableEq, Repr

/-- All that belongs to one group: its record (R1), configuration (R28), generator (R91), replay
queue (R52), channels, last accepted echo (R108) and counters. -/
structure Group where
  state : GState
  bound : Option MapIx
  source : Source
  expected : Option Seq
  outSeq : Seq
  env : Nat
  level : Nat
  att : Nat
  retryCount : Nat
  retryTimer : Nat
  resume : Resume
  streak : Nat
  sinceFb : Nat
  telemCount : Nat
  genDone : Bool
  tallies : Tallies
  latched : Tab 10 (Option FaultClass)
  firstTrip : Option FirstTrip
  action : Option Action
  target : Option EndTarget
  cfg : GroupConfig
  gen : GenConfig
  genRun : GenRun
  queue : List QEntry
  lastEcho : Option Seq
  chans : Tab 6 Channel
  ctr : GroupCounters
  deriving DecidableEq, Repr

/-! ## Playback ports, stream map and management (Chapters 2, 9 and 10) -/

/-- A port's admit policy (R34). -/
inductive Admission where
  | all
  | taggedOnly
  | untaggedOnly
  deriving DecidableEq, Repr

/-- A port's policy record (R36). -/
structure PortPolicy where
  policy : Admission
  defaultTag : BitVec 12
  deriving DecidableEq, Repr

/-- The role of a stream map entry (R37). -/
inductive Role where
  | primary
  | trim
  deriving DecidableEq, Repr

/-- A stream map entry (R37). -/
structure MapEntry where
  valid : Bool
  tag : BitVec 12
  role : Role
  group : GroupIx
  laneMask : BitVec 6
  portMask : BitVec 2
  lastTrim : Option Seq
  deriving DecidableEq, Repr

/-- The seven request classes, 0xFF0 to 0xFF6 (R157, R176). -/
inductive ReqClass where
  | supervision
  | map
  | setup
  | run
  | fault
  | stats
  | device
  deriving DecidableEq, Repr

/-- A class action (R161). -/
inductive ClassAction where
  | execute
  | executeEcho
  | discard
  deriving DecidableEq, Repr

/-- A queued request (R162); its operand length is the length of `operands`. -/
structure Request where
  cls : ReqClass
  id : Byte
  opcode : Byte
  operands : List Byte
  action : ClassAction
  deriving DecidableEq, Repr

/-- The status codes of a response (R158). -/
inductive Status where
  | ok
  | adjusted
  | badOpcode
  | badLength
  | badIndex
  | badValue
  | wrongState
  | inUse
  | conflict
  | notReady
  | interlockOpen
  | lockout
  deriving DecidableEq, Repr

/-- The kind byte of an upstream frame (R185). -/
inductive UpKind where
  | response
  | echo
  | telemetry
  deriving DecidableEq, Repr

/-- An upstream frame's fields (R185): `ident` is the request id or the group, `status` the status
or state code, `origin` the origin port of an echo. -/
structure UpFrame where
  tag : BitVec 12
  kind : UpKind
  unit : BitVec 2
  origin : Port
  ident : Byte
  status : Byte
  payload : List Byte
  deriving DecidableEq, Repr

/-- The two operands of RESET_PART (R168). -/
inductive ResetKind where
  | reload
  | resample
  deriving DecidableEq, Repr

/-- A queued response; `landing` is present in the response of a taken RESET_PART (R168). -/
structure QResponse where
  frame : UpFrame
  landing : Option ResetKind
  deriving DecidableEq, Repr

/-- Where the frame being sent stands: at the head of the response or echo queue until its sending
completes (R165), or in no queue: a telemetry record, or a frame whose queue a part reset emptied
while it was being sent (R170). -/
inductive SendSource where
  | response
  | echo
  | detached
  deriving DecidableEq, Repr

/-- The frame a transmitter is sending (R181). -/
structure Sending where
  frame : UpFrame
  source : SendSource
  landing : Option ResetKind
  deriving DecidableEq, Repr

/-- A port's statistics counters, in the order of the table of Chapter 10. -/
structure PortCounters where
  framesReceived : Nat
  checkErrors : Nat
  malformed : Nat
  admitRefused : Nat
  unknownTag : Nat
  unknownClass : Nat
  classDiscarded : Nat
  requestOverflow : Nat
  echoDropped : Nat
  telemetryReplaced : Nat
  excessSamples : Nat
  deriving DecidableEq, Repr

/-- All that belongs to one playback port: policy (R36), request queue (R162), response and echo
queues (R165), telemetry slots (R180), transmitter (R181), class actions (R161) and counters.
`sent` is the model's own: the frames the transmitter has completed, oldest first. -/
structure PortState where
  policy : PortPolicy
  requests : List Request
  responses : List QResponse
  echoes : List UpFrame
  slots : Tab 4 (Option UpFrame)
  nextGroup : GroupIx
  sending : Option Sending
  actions : Tab 7 ClassAction
  ctr : PortCounters
  sent : List (List Byte)
  deriving DecidableEq, Repr

/-! ## The device -/

/-- The device playout rate (R7). -/
inductive Rate where
  | hz256
  | hz512
  | hz1024
  | hz2048
  deriving DecidableEq, Repr

/-- The watchdog's states (R131). -/
inductive WdState where
  | disabled
  | running
  | expired
  deriving DecidableEq, Repr

/-- The supervision watchdog (R131). -/
structure Watchdog where
  period : Nat
  unit : TickUnit
  remaining : Nat
  state : WdState
  deriving DecidableEq, Repr

/-- The servo link's counters (R114). -/
structure ServoCounters where
  framesReceived : Nat
  checkErrors : Nat
  malformed : Nat
  deriving DecidableEq, Repr

end Sys2Proof.Machine
end

