-- ==== Sys2Proof/Machine/Defaults.lean ====
section
/-! DEFINITION. The values after power-on and after RESET_PART, record by record, as each chapter
gives them. -/

namespace Sys2Proof.Machine

def defaultTallies : Tallies := { enqueued := 0, played := 0, skipped := 0, flushed := 0 }

def defaultGroupCounters : GroupCounters :=
  { playouts := 0, underruns := 0, overflowDrops := 0, staleDrops := 0, gapFrames := 0,
    fillerEntries := 0, seqBreaks := 0, unboundDrops := 0, refusedDrops := 0,
    feedbackAccepted := 0, feedbackStale := 0, trips := 0 }

def defaultPortCounters : PortCounters :=
  { framesReceived := 0, checkErrors := 0, malformed := 0, admitRefused := 0, unknownTag := 0,
    unknownClass := 0, classDiscarded := 0, requestOverflow := 0, echoDropped := 0,
    telemetryReplaced := 0, excessSamples := 0 }

def defaultServoCounters : ServoCounters := { framesReceived := 0, checkErrors := 0, malformed := 0 }

/-- R28, column Default. -/
def defaultGroupConfig : GroupConfig :=
  { fadeStep := 16, parkStep := 64, prefill := 16, starveLimit := 8, gapFill := 2, fbLimit := 16,
    clampLimit := 0, retryTime := 2048, retryLimit := 3,
    starve := { mode := .latch, action := .park },
    seqBreak := { mode := .report, action := .park },
    fbLoss := { mode := .latch, action := .park },
    clampPersist := { mode := .report, action := .park },
    watchdog := { mode := .latch, action := .park },
    flowLimit := 0, attStep := 64, attFloor := 1024, telemK := 0, telemPort := .a }

/-- R91, configuration part. -/
def defaultGenConfig : GenConfig :=
  { pattern := .constant, level := 0, period := 256, seed := Config.defaultSeed,
    count := some 1024, mask := 0x3F#6 }

/-- R91, runtime part. -/
def defaultGenRun : GenRun := { phase := 0, noise := Config.defaultSeed, count := 0, ended := false }

/-- R70, column Default. -/
def defaultProfile : Profile :=
  { gain := 16384, offset := 0, polarity := .normal, slew := 0, lmin := 0x8000#16,
    lmax := 0x7FFF#16, park := 0, limitSet := 0, weight := 1 }

/-- The cleared values of a channel monitor's record (R120, R123). -/
def clearedMonRec : MonRec := { cond := false, count := 0, tripped := false }

/-- R72, R48, R86 and R120. -/
def defaultChannel : Channel :=
  { profile := defaultProfile, yPrev := 0, d := 0, x := 0, trim := 0, slewFlag := false,
    rangeFlag := false, persist := 0, position := clearedMonRec, force := clearedMonRec,
    error := clearedMonRec, slewClamps := 0, rangeClamps := 0 }

/-- One monitor of a limit set after reset (R117). -/
def defaultLimitMon : LimitMon := { deglitch := 1, mode := .off, action := .park }

/-- R117. -/
def defaultLimitSet : LimitSet :=
  { posLo := 0x8000#16, posHi := 0x7FFF#16, forceMax := 32767, errMax := 32767,
    position := defaultLimitMon, force := defaultLimitMon, error := defaultLimitMon }

/-- R1, R28, R52, R91 and R108. -/
def defaultGroup : Group :=
  { state := .idle, bound := none, source := .stream, expected := none, outSeq := 0, env := 0,
    level := Config.fullScale, att := Config.fullScale, retryCount := 0, retryTimer := 0,
    resume := .fadeIn, streak := 0, sinceFb := 0, telemCount := 0, genDone := false,
    tallies := defaultTallies, latched := Tab.fill none, firstTrip := none, action := none,
    target := none, cfg := defaultGroupConfig, gen := defaultGenConfig, genRun := defaultGenRun,
    queue := [], lastEcho := none, chans := Tab.fill defaultChannel, ctr := defaultGroupCounters }

/-- The cleared values of a stream map entry (R37). -/
def clearedEntry : MapEntry :=
  { valid := false, tag := 0, role := .primary, group := 0, laneMask := 0, portMask := 0,
    lastTrim := none }

/-- The default entry of a corner (R38). -/
def cornerEntry (g : GroupIx) : MapEntry :=
  { valid := true, tag := 0x100#12 + BitVec.ofNat 12 g.val, role := .primary, group := g,
    laneMask := 0x3F#6, portMask := 1#2, lastTrim := none }

/-- The stream map after a reset, by DEFMAP (R38). -/
def defaultMap (defmap : Bool) : Tab 32 MapEntry :=
  Tab.of fun i => if h : defmap = true ∧ i.val < 4 then cornerEntry ⟨i.val, h.2⟩ else clearedEntry

/-- R36. -/
def defaultPolicy : PortPolicy := { policy := .all, defaultTag := 0 }

/-- A port after a reset (R36, R161, R162, R165, R180, R181). -/
def defaultPort : PortState :=
  { policy := defaultPolicy, requests := [], responses := [], echoes := [], slots := Tab.fill none,
    nextGroup := 0, sending := none, actions := Tab.fill .execute, ctr := defaultPortCounters,
    sent := [] }

/-- The watchdog after a reset, by WDDEF (R131). -/
def defaultWatchdog (wddef : Bool) : Watchdog :=
  if wddef then { period := 50, unit := .ms10, remaining := 50, state := .running }
  else { period := 0, unit := .ms10, remaining := 0, state := .disabled }

/-- All ten kinds selected (R156, R175). -/
def defaultAlertMask : BitVec 16 := 0x07FE#16

/-- The input levels of `State.reset`: DESIGN CHOICE (notes/assumptions/4.md), since the spec leaves
the levels found at power-on to the rig. POWER_ON brings any others. -/
def resetPins : Pins :=
  { straps := { unitId := 0, defmap := false, wddef := false }, interlockOpen := false }

end Sys2Proof.Machine
end

