-- ==== Sys2Proof/Machine/State.lean ====
section
/-! DEFINITION. The state of the part, the reasons a command can stop, and the state after reset.
INVENTORY.md's heading State lists every field with the rule that names it. -/

namespace Sys2Proof.Machine

/-- The state of the D24. `pending`, `servoSent`, `freeCount` and each port's `sent` are the model's
own; every other field is the spec's. -/
structure State where
  /-- The levels on the strap pins and the INTERLOCK line, as the last command that brought them left them. -/
  pins : Pins
  /-- The strap store (R167). -/
  straps : Straps
  /-- The device playout rate (R7). -/
  rate : Rate
  portA : PortState
  portB : PortState
  /-- The stream map (R37). -/
  map : Tab 32 MapEntry
  groups : Tab 4 Group
  limitSets : Tab 16 LimitSet
  watchdog : Watchdog
  /-- The sensed interlock state: true for open (R137). -/
  interlockOpen : Bool
  /-- The device alert mask, a kind set (R156, R175). -/
  alertMask : BitVec 16
  /-- The FAULT line: true for asserted (R155). -/
  faultLine : Bool
  /-- The ALERT line: true for asserted (R155). -/
  alertLine : Bool
  /-- The port arbiter's preferred port (R163). -/
  preferred : Port
  /-- Whether a part reset is in flight (R168, R169). -/
  resetInFlight : Bool
  servo : ServoCounters
  /-- The model's own: the command frames handed to the servo link, oldest first (R103, R104). -/
  servoSent : List (List Byte)
  /-- The model's own: numbers the occasions of the free value (Config.unstatedObserved). -/
  freeCount : Nat
  /-- The model's own: the commands that wait, first in, first out. -/
  pending : List Instr
  deriving DecidableEq, Repr

/-- Why the machine stops with a fault. No command of the D24 stops it: the spec gives every event an
outcome in every state, a drop, a refusal status or no effect among them. So there is no constructor. -/
inductive Fault where
  deriving DecidableEq, Repr

/-- Why a command has no meaning. -/
inductive Refusal where
  /-- Raised by `exec`'s arm of a command without a meaning, and by no other definition; safe. No arm
  of this model raises it. -/
  | notModelled (mnemonic : String)
  deriving DecidableEq, Repr

/-- The part as every reset leaves it, from the straps and the input levels (R167, R170). -/
def State.fresh (straps : Straps) (pins : Pins) : State :=
  { pins := pins, straps := straps, rate := .hz1024, portA := defaultPort, portB := defaultPort,
    map := defaultMap straps.defmap, groups := Tab.fill defaultGroup,
    limitSets := Tab.fill defaultLimitSet, watchdog := defaultWatchdog straps.wddef,
    interlockOpen := pins.interlockOpen, alertMask := defaultAlertMask, faultLine := false,
    alertLine := false, preferred := .a, resetInFlight := false, servo := defaultServoCounters,
    servoSent := [], freeCount := 0, pending := [] }

/-- The machine right after power-on, at the input levels of `resetPins`. -/
def State.reset : State := State.fresh resetPins.straps resetPins

end Sys2Proof.Machine
end

