-- ==== Sys2Proof/Machine/Generator.lean ====
section
/-! DEFINITION. The test pattern generator (Chapter 5): the sample of a generated playout and the
advance of the runtime part. -/

namespace Sys2Proof.Machine

/-- The sample of a pattern at the runtime part as it stands (R94, R95, R96). The division
of naturals is the spec's floor there, `Int.tdiv` its trunc. -/
def genSample (c : GenConfig) (r : GenRun) : Int :=
  let mag : Nat := c.level.toInt.natAbs
  match c.pattern with
  | .constant => c.level.toInt
  | .square => if r.phase < c.period then (mag : Int) else -(mag : Int)
  | .ramp => (mag : Int) - ((2 * mag * r.phase / c.period : Nat) : Int)
  | .noise => Int.tdiv ((mag : Int) * ((r.noise.toNat : Int) - 32768)) 32768

/-- One advance of the 16-bit noise register (R96). -/
def noiseNext (r : BitVec 16) : BitVec 16 :=
  if r.getLsbD 0 then (r >>> 1) ^^^ 0xB400#16 else r >>> 1

/-- The phase after a sample: CONSTANT stays at 0 (R94), SQUARE returns to 0 at 2H (R94), RAMP at H
(R95). NOISE has no phase: its place is its register (notes/assumptions/9.md). -/
def phaseNext (c : GenConfig) (p : Nat) : Nat :=
  match c.pattern with
  | .constant => p
  | .square => if p + 1 = 2 * c.period then 0 else p + 1
  | .ramp => if p + 1 = c.period then 0 else p + 1
  | .noise => p

/-- The runtime part after a generated playout: `counts` in FADE_IN and RUN (R93, R97). -/
def genAdvance (c : GenConfig) (counts : Bool) (r : GenRun) : GenRun :=
  { r with
    phase := phaseNext c r.phase
    noise := match c.pattern with
      | .noise => noiseNext r.noise
      | _ => r.noise
    count := if counts && !r.ended then min (r.count + 1) Config.genCountMax else r.count }

/-- Whether a generated playout in FADE_IN or RUN completed the burst (R97): the runtime part before
it and after it. -/
def burstDone (c : GenConfig) (before after : GenRun) : Bool :=
  !before.ended && decide (before.count < after.count) && decide (c.count = some after.count)

/-- The runtime part that GEN_START leaves (R97). -/
def genRestart (c : GenConfig) : GenRun := { phase := 0, noise := c.seed, count := 0, ended := false }

end Sys2Proof.Machine
end

