-- ==== Sys2Proof/Machine/Pipeline.lean ====
section
/-! DEFINITION. The conditioning pipeline (Chapter 4): the arithmetic stages of a channel, the clamps,
clamp persistence and the flow monitor. Every stage computes in exact integers (R74). -/

namespace Sys2Proof.Machine

/-- A statistics counter or run tally after an addition (R5, R177). -/
def satAdd (n k : Nat) : Nat := min (n + k) Config.counterMax

/-- One more on a count that stops at 65535 (R1, R72). -/
def countUp (n : Nat) : Nat := min (n + 1) Config.countMax

/-- Round half away from zero (R74). -/
def rha (n : Int) (m : Nat) : Int := n.sign * (((n.natAbs + m / 2) / m : Nat) : Int)

/-- An integer within bounds: below the lower it becomes the lower, above the upper the upper. -/
def clampInt (lo hi v : Int) : Int := if v < lo then lo else if hi < v then hi else v

/-- The combined factor F (R77). -/
def combinedFactor (e a : Nat) : Nat := (e * a + 2048) / 4096

/-- Stages 1 to 4: trim, gain, polarity, offset (R75, R76). -/
def conditioned (p : Profile) (d t : Du) : Int :=
  let s1 := d.toInt + t.toInt
  let s2 := rha (s1 * p.gain) 16384
  let s3 := match p.polarity with
    | .normal => s2
    | .inverted => -s2
  s3 + p.offset.toInt

/-- Stage 5: the blend about the park value (R78; R82 with E in place of F). -/
def blend (p : Profile) (s4 : Int) (f : Nat) : Int :=
  p.park.toInt + rha ((s4 - p.park.toInt) * f) 4096

/-- Stage 6: the slew clamp about the previous output (R79). -/
def slewed (p : Profile) (yPrev : Du) (s5 : Int) : Int :=
  if p.slew = 0 then s5 else clampInt (yPrev.toInt - p.slew) (yPrev.toInt + p.slew) s5

/-- Stage 7: the range clamp (R80). -/
def ranged (p : Profile) (s6 : Int) : Int := clampInt p.lmin.toInt p.lmax.toInt s6

/-- Stages 6 to 8 on a channel: the output becomes `yPrev`, and each flag says whether its stage moved
the value, with its counter (R79, R80, R86). -/
def Channel.output (c : Channel) (s5 : Int) : Channel :=
  let s6 := slewed c.profile c.yPrev s5
  let y := ranged c.profile s6
  let slewMoved := decide (s6 ≠ s5)
  let rangeMoved := decide (y ≠ s6)
  { c with
    yPrev := BitVec.ofInt 16 y
    slewFlag := slewMoved
    rangeFlag := rangeMoved
    slewClamps := if slewMoved then satAdd c.slewClamps 1 else c.slewClamps
    rangeClamps := if rangeMoved then satAdd c.rangeClamps 1 else c.rangeClamps }

/-- Whether the channel's last playout clamped it (R85). -/
def Channel.clamped (c : Channel) : Bool := c.slewFlag || c.rangeFlag

/-- The clamp persistence counter after stage 7 of a live playout (R85). -/
def Channel.countPersist (c : Channel) : Channel :=
  { c with persist := if c.clamped then countUp c.persist else 0 }

/-- A channel at a live playout: stages 1 to 8, then its persistence counter (R81, R85). -/
def Channel.live (c : Channel) (f : Nat) : Channel :=
  (c.output (blend c.profile (conditioned c.profile c.d c.trim) f)).countPersist

/-- A channel at a PARKING playout: the frozen source blended by E alone (R82). -/
def Channel.parking (c : Channel) (e : Nat) : Channel := c.output (blend c.profile c.x.toInt e)

/-- A channel at a HELD playout: its frozen source, both flags cleared (R73, R83). -/
def Channel.hold (c : Channel) : Channel :=
  { c with yPrev := c.x, slewFlag := false, rangeFlag := false }

/-- A channel at a playout of a state that outputs Pk (R73). -/
def Channel.rest (c : Channel) : Channel :=
  { c with yPrev := c.profile.park, slewFlag := false, rangeFlag := false }

/-- Whether a live playout's increase brought the persistence counter to the limit (R85): `old` is
the channel before the playout, `new` after it. -/
def persistReached (limit : Nat) (old new : Channel) : Bool :=
  decide (limit ≠ 0) && new.clamped && decide (old.persist < Config.countMax)
    && decide (new.persist = limit)

/-- A channel's share of the flow demand (R87). -/
def flowTerm (old new : Channel) : Nat :=
  new.profile.weight * (new.yPrev.toInt - old.yPrev.toInt).natAbs

/-- The group's demand D at a live playout (R87). -/
def flowDemand (old new : Tab 6 Channel) : Nat :=
  (lanes.map fun l => flowTerm (old.get l) (new.get l)).sum

/-- Whether the demand raises a FLOW event (R88). -/
def flowExceeded (c : GroupConfig) (demand : Nat) : Bool :=
  decide (c.flowLimit ≠ 0) && decide (c.flowLimit < demand)

/-- The attenuation after the flow monitor (R88). -/
def flowAdjust (c : GroupConfig) (demand att : Nat) : Nat :=
  if c.flowLimit = 0 then att
  else if c.flowLimit < demand then max c.attFloor (att - c.attStep)
  else if demand ≤ c.flowLimit - c.flowLimit / 8 then min Config.fullScale (att + c.attStep)
  else att

end Sys2Proof.Machine
end

