-- ==== Sys2Proof/Machine/Queue.lean ====
section
/-! DEFINITION. The replay queue of a group (Chapter 3): arrivals, takes and flushes, with the run
tallies and counters they move. -/

namespace Sys2Proof.Machine

/-- The filler entry (R53). -/
def fillerEntry : QEntry := { seq := none, filler := true, slots := Tab.fill none }

/-- The entry made from a frame (R53). -/
def frameEntry (seq : Seq) (slots : Tab 6 (Option Du)) : QEntry :=
  { seq := some seq, filler := false, slots := slots }

/-- Entries at the tail, each counted enqueued (R5, R52). -/
def Group.insert (g : Group) (es : List QEntry) : Group :=
  { g with
    queue := g.queue ++ es
    tallies := { g.tallies with enqueued := satAdd g.tallies.enqueued es.length } }

/-- Room left in the queue (R52). -/
def Group.room (g : Group) : Nat := Config.queueCapacity - g.queue.length

/-- The frame itself at the tail, or dropped as overflow (R56). -/
def Group.insertFrame (g : Group) (e : QEntry) : Group :=
  if 0 < g.room then g.insert [e]
  else { g with ctr := { g.ctr with overflowDrops := satAdd g.ctr.overflowDrops 1 } }

/-- As many fillers as the gap and the room allow (R57). -/
def Group.insertFillers (g : Group) (gap : Nat) : Group :=
  let n := min gap g.room
  let g' := g.insert (List.replicate n fillerEntry)
  { g' with ctr := { g'.ctr with fillerEntries := satAdd g'.ctr.fillerEntries n } }

/-- GAP_FRAMES raised by a gap (R57, R58). -/
def Group.countGap (g : Group) (gap : Nat) : Group :=
  { g with ctr := { g.ctr with gapFrames := satAdd g.ctr.gapFrames gap } }

/-- SEQ_BREAKS raised by 1 (R58). -/
def Group.countBreak (g : Group) : Group :=
  { g with ctr := { g.ctr with seqBreaks := satAdd g.ctr.seqBreaks 1 } }

/-- STALE_DROPS raised by 1 (R49, R59). -/
def Group.countStale (g : Group) : Group :=
  { g with ctr := { g.ctr with staleDrops := satAdd g.ctr.staleDrops 1 } }

/-- The expected sequence after an arrival that is not stale (R54). -/
def Group.expectAfter (g : Group) (seq : Seq) : Group := { g with expected := some (seq + 1) }

/-- How an arrival is judged against the expected sequence (section 3.2). -/
inductive Arrival where
  | first
  | inOrder
  | shortGap (gap : Nat)
  | seqBreak (gap : Nat)
  | stale
  deriving DecidableEq, Repr

/-- The table of section 3.2 (R55 to R59). -/
def judgeArrival (expected : Option Seq) (gapFill : Nat) (seq : Seq) : Arrival :=
  match expected with
  | none => .first
  | some e =>
    let gap := (seq - e).toNat
    if gap = 0 then .inOrder
    else if 32767 < gap then .stale
    else if gap ≤ gapFill then .shortGap gap
    else .seqBreak gap

/-- The arrival of a drive frame at the queue (R60): the group it leaves, and whether it raises one
event for the SEQ_BREAK monitor (R58). -/
def Group.arrive (g : Group) (seq : Seq) (slots : Tab 6 (Option Du)) : Group × Bool :=
  let e := frameEntry seq slots
  match judgeArrival g.expected g.cfg.gapFill seq with
  | .first => ((g.insertFrame e).expectAfter seq, false)
  | .inOrder => ((g.insertFrame e).expectAfter seq, false)
  | .shortGap gap => ((((g.countGap gap).insertFillers gap).insertFrame e).expectAfter seq, false)
  | .seqBreak gap => ((((g.countGap gap).countBreak).insertFrame e).expectAfter seq, true)
  | .stale => (g.countStale, false)

/-- A channel's last drive sample after a lane slot is taken: an absent slot leaves it (R62). -/
def Channel.takeSlot (c : Channel) (slot : Option Du) : Channel :=
  match slot with
  | some v => { c with d := v }
  | none => c

/-- The playout take (R62) or underrun (R63) of a live playout with source STREAM, and whether the
underrun brings the streak to the starvation limit (R64). -/
def Group.take (g : Group) : Group × Bool :=
  match g.queue with
  | e :: rest =>
    ({ g with
       queue := rest
       tallies := { g.tallies with played := satAdd g.tallies.played 1 }
       streak := 0
       chans := g.chans.mapIx fun l c => c.takeSlot (e.slots.get l) }, false)
  | [] =>
    ({ g with
       streak := countUp g.streak
       ctr := { g.ctr with underruns := satAdd g.ctr.underruns 1 } },
     decide (g.streak < Config.countMax) && decide (g.streak + 1 = g.cfg.starveLimit))

/-- The skip take of PARKING, HELD and RETRY_WAIT (R65). -/
def Group.skip (g : Group) : Group :=
  match g.queue with
  | _ :: rest =>
    { g with
      queue := rest
      tallies := { g.tallies with skipped := satAdd g.tallies.skipped 1 } }
  | [] => g

/-- A flush (R66). -/
def Group.flush (g : Group) : Group :=
  { g with
    queue := []
    tallies := { g.tallies with flushed := satAdd g.tallies.flushed g.queue.length } }

end Sys2Proof.Machine
end

