-- ==== Sys2Proof/Machine/Entries.lean ====
section
/-! DEFINITION. What the group controller does on entering a state (section 1.5, R85, R123, R145), and
the two completions that lead to ARMED. -/

namespace Sys2Proof.Machine

/-- The three monitor records of a channel at their cleared values (R123, R118). -/
def Channel.clearMonitors (c : Channel) : Channel :=
  { c with position := clearedMonRec, force := clearedMonRec, error := clearedMonRec }

/-- Entry into IDLE, by whatever cause (R16, R123, R146). -/
def Group.enterIdle (g : Group) : Group :=
  { g.flush with
    state := .idle
    bound := none
    source := .stream
    env := 0
    action := none
    target := none
    chans := g.chans.map fun c => { c.clearMonitors with trim := 0 } }

/-- Entry into FAULTED, by whatever cause (R17, R123). -/
def Group.enterFaulted (g : Group) : Group :=
  { g.flush with
    state := .faulted
    env := 0
    chans := g.chans.map Channel.clearMonitors }

/-- The last output of every channel frozen into x (R18). -/
def Group.freeze (g : Group) : Group :=
  { g with chans := g.chans.map fun c => { c with x := c.yPrev } }

/-- Entry into PARKING (R18). -/
def Group.enterParking (g : Group) : Group :=
  { g.freeze with state := .parking, env := Config.fullScale }

/-- Entry into HELD (R18): E is unchanged. -/
def Group.enterHeld (g : Group) : Group := { g.freeze with state := .held }

/-- Entry into FADE_IN, by START, GEN_START or a retry resume (R19, R85). -/
def Group.enterFadeIn (g : Group) : Group :=
  { g with
    state := .fadeIn
    streak := 0
    chans := g.chans.map fun c => { c with persist := 0 } }

/-- Entry into RETRY_WAIT (R145). -/
def Group.enterRetryWait (g : Group) : Group :=
  { g with
    state := .retryWait
    retryCount := g.retryCount + 1
    retryTimer := g.cfg.retryTime
    env := 0 }

/-- The end of an episode: the state its end target names (R14, R145). With no end target there is no
state to enter. -/
def Group.enterTarget (g : Group) : Group :=
  match g.target with
  | some .idle => g.enterIdle
  | some .retryWait => g.enterRetryWait
  | some .faulted => g.enterFaulted
  | none => g

/-- Fade-out completion (R13, R19). -/
def Group.completeFadeOut (g : Group) : Group :=
  { g.flush with
    state := .armed
    expected := none
    source := .stream
    streak := 0 }

/-- Every ACTION member of the latched fault set lowered to REPORT (R150). -/
def Group.demote (g : Group) : Group :=
  { g with
    latched := g.latched.map fun m => match m with
      | some .action => some .report
      | other => other }

/-- A retry resume (R150, R19). -/
def Group.resumeRun (g : Group) : Group :=
  let g' := { g.demote with action := none, target := none }
  match g.resume with
  | .fadeIn => g'.enterFadeIn
  | .armed => { g' with state := .armed, streak := 0 }

end Sys2Proof.Machine
end

