-- ==== Sys2Proof/Machine/Trips.lean ====
section
/-! DEFINITION. The trip unit on one group (Chapter 8): latching, the first-trip record, the end
target, the action in force, and the interlock trip. -/

namespace Sys2Proof.Machine

/-- The code of a fault kind (R139). -/
def Kind.code : Kind → Nat
  | .position => 1
  | .force => 2
  | .error => 3
  | .clampPersist => 4
  | .starve => 5
  | .seqBreak => 6
  | .fbLoss => 7
  | .watchdog => 8
  | .interlock => 9
  | .flow => 10

/-- A kind's place in the latched fault set: its code less 1. -/
def Kind.ix : Kind → Fin 10
  | .position => 0
  | .force => 1
  | .error => 2
  | .clampPersist => 3
  | .starve => 4
  | .seqBreak => 5
  | .fbLoss => 6
  | .watchdog => 7
  | .interlock => 8
  | .flow => 9

/-- The ten kinds in code order. -/
def kindList : List Kind :=
  [.position, .force, .error, .clampPersist, .starve, .seqBreak, .fbLoss, .watchdog, .interlock, .flow]

/-- The class a group's latched fault set holds a kind in, if it holds it (R140). -/
def Group.classOf (g : Group) (k : Kind) : Option FaultClass := g.latched.get k.ix

/-- Whether the set holds the kind, in either class. -/
def Group.holds (g : Group) (k : Kind) : Bool := (g.classOf k).isSome

/-- Whether the set holds an ACTION kind (R155). -/
def Group.holdsAction (g : Group) : Bool :=
  kindList.any fun k => g.classOf k == some .action

/-- A kind's class after a trip of a class (R140). -/
def joinClass (old : Option FaultClass) (new : FaultClass) : Option FaultClass :=
  match old, new with
  | none, c => some c
  | some .report, .action => some .action
  | some c, _ => some c

/-- A trip latches its kind (R140). -/
def Group.latch (g : Group) (k : Kind) (c : FaultClass) : Group :=
  { g with latched := g.latched.set k.ix (joinClass (g.classOf k) c) }

/-- Whether an action trip of a mode is retryable (R143). -/
def Group.retryable (g : Group) (m : Mode) : Bool :=
  m == .retry && decide (g.retryCount < g.cfg.retryLimit)

/-- The end target after an action trip (R143). -/
def targetAfter (old : Option EndTarget) (retryable : Bool) : EndTarget :=
  match old, retryable with
  | none, true => .retryWait
  | none, false => .faulted
  | some .retryWait, true => .retryWait
  | some .retryWait, false => .faulted
  | some .idle, _ => .faulted
  | some .faulted, _ => .faulted

/-- What every action trip records: the latched kind, the first-trip record when it is absent, and
TRIPS (R140, R141). -/
def Group.recordTrip (g : Group) (ev : MonEvent) (retryable : Bool) : Group :=
  let first : FirstTrip :=
    { kind := ev.kind, lane := ev.lane, outSeq := g.outSeq, observed := ev.observed,
      mode := if retryable then .retry else .latch }
  { g.latch ev.kind .action with
    firstTrip := some (g.firstTrip.getD first)
    ctr := { g.ctr with trips := satAdd g.ctr.trips 1 } }

/-- A trip that finds no end target opens an episode and sets the resume target (R143). -/
def Group.openEpisode (g : Group) : Group :=
  if g.target = none then
    { g with resume := if g.state = .armed then .armed else .fadeIn }
  else g

/-- The strength order of actions, "none" lowest (R144). -/
def strength : Option Action → Nat
  | none => 0
  | some .park => 1
  | some .hold => 2
  | some .null => 3

/-- A stronger action acting by the group's state (the table of R144, but for RETRY_WAIT). -/
def Group.actBy (g : Group) (a : Option Action) : Group :=
  match g.state, a with
  | .armed, _ => g.enterTarget
  | .fadeIn, some .park => g.enterParking
  | .run, some .park => g.enterParking
  | .fadeOut, some .park => g.enterParking
  | .fadeIn, some .hold => g.enterHeld
  | .run, some .hold => g.enterHeld
  | .fadeOut, some .hold => g.enterHeld
  | .parking, some .hold => g.enterHeld
  | .fadeIn, some .null => g.enterTarget
  | .run, some .null => g.enterTarget
  | .fadeOut, some .null => g.enterTarget
  | .parking, some .null => g.enterTarget
  | .held, some .null => g.enterTarget
  | _, _ => g

/-- An action trip's action against the action in force (R144). A retryable trip in RETRY_WAIT has no
effect here and a non-retryable one enters FAULTED; in FAULTED too a stronger action becomes the action
in force (notes/assumptions/6.md). -/
def Group.applyAction (g : Group) (a : Option Action) (retryable : Bool) : Group :=
  if g.state = .retryWait ∧ retryable = true then g
  else
    let stronger := decide (strength g.action < strength a)
    let g' := if stronger then { g with action := a } else g
    if g'.state = .retryWait then g'.enterFaulted
    else if stronger then g'.actBy a
    else g'

/-- An action trip (R143, R144). -/
def Group.actionTrip (g : Group) (ev : MonEvent) : Group :=
  let r := g.retryable ev.mode
  let g' := (g.recordTrip ev r).openEpisode
  { g' with target := some (targetAfter g.target r) }.applyAction ev.action r

/-- A monitor event handled by the trip unit (R139, R142, R143). A group in IDLE discards it; no
monitor hands on an event whose mode is OFF (R115). -/
def Group.trip (g : Group) (ev : MonEvent) : Group :=
  if g.state = .idle then g
  else
    match ev.mode with
    | .report => g.latch ev.kind .report
    | .latch => g.actionTrip ev
    | .retry => g.actionTrip ev
    | .off => g

/-- Several events handled one after another, in the order in which they were raised (R116). -/
def Group.tripAll (g : Group) (evs : List MonEvent) : Group := evs.foldl Group.trip g

/-- The INTERLOCK monitor's event (R138). -/
def interlockEvent : MonEvent :=
  { kind := .interlock, lane := none, mode := .latch, action := some .null, observed := none }

/-- The interlock trip (R148). It is an action trip, so it opens an episode where none is in
progress (R143; notes/assumptions/7.md). -/
def Group.interlockTrip (g : Group) : Group :=
  if g.state = .idle then g
  else
    let g' := (g.recordTrip interlockEvent false).openEpisode
    let g'' := { g' with action := some .null, target := some .faulted }
    if g.state = .faulted then g'' else g''.enterFaulted

end Sys2Proof.Machine
end

