-- ==== Sys2Proof/Machine/Flags.lean ====
section
/-! DEFINITION. Kind sets (R175) and the FAULT and ALERT lines (R155). -/

namespace Sys2Proof.Machine

/-- A set of fault kinds as a 16-bit kind set: bit n for kind code n (R175). -/
def kindSet (p : Kind → Bool) : BitVec 16 :=
  kindList.foldl (fun w k => if p k then w ||| (1#16 <<< k.code) else w) 0#16

/-- Whether a kind set selects a kind. -/
def selects (w : BitVec 16) (k : Kind) : Bool := w.getLsbD k.code

/-- Whether a word may be an alert mask: bit 0 and bits 11 to 15 are 0 (R175). -/
def kindSetOk (w : BitVec 16) : Bool := w &&& 0xF801#16 == 0#16

/-- A group's ACTION kinds as a kind set (R174). -/
def Group.actionSet (g : Group) : BitVec 16 := kindSet fun k => g.classOf k == some .action

/-- A group's REPORT kinds as a kind set (R174). -/
def Group.reportSet (g : Group) : BitVec 16 := kindSet fun k => g.classOf k == some .report

/-- A group's latched kinds without classes (R179). -/
def Group.latchedSet (g : Group) : BitVec 16 := kindSet fun k => g.holds k

/-- When the FAULT line is to be asserted (R155). -/
def faultOf (gs : Tab 4 Group) : Bool := groupList.any fun i => (gs.get i).holdsAction

/-- When the ALERT line is to be asserted (R155). -/
def alertOf (gs : Tab 4 Group) (mask : BitVec 16) : Bool :=
  groupList.any fun i => kindList.any fun k => (gs.get i).holds k && selects mask k

/-- Both lines driven from the latched fault sets and the alert mask as they stand: done within every
event that changes what a line reads (R155). -/
def State.driveLines (s : State) : State :=
  { s with faultLine := faultOf s.groups, alertLine := alertOf s.groups s.alertMask }

end Sys2Proof.Machine
end

