-- ==== Sys2Proof/Machine/Bytes.lean ====
section
/-! DEFINITION. Byte order, sign and the check code (Chapter 11): reading the fields of a frame or of
a request's operands, writing them, and the 16-bit cyclic redundancy check of R183. -/

namespace Sys2Proof.Machine

/-- The byte at an offset. A caller has checked the length, so the default is not met there. -/
def byteAt (bs : List Byte) (i : Nat) : Byte := bs.getD i 0

/-- A two-byte field, most significant byte first (R182). -/
def wordAt (bs : List Byte) (i : Nat) : BitVec 16 := byteAt bs i ++ byteAt bs (i + 1)

/-- An unsigned one-byte field. -/
def natAt8 (bs : List Byte) (i : Nat) : Nat := (byteAt bs i).toNat

/-- An unsigned two-byte field. -/
def natAt16 (bs : List Byte) (i : Nat) : Nat := (wordAt bs i).toNat

/-- An unsigned three-byte field, most significant byte first (the count of GEN_CONFIG). -/
def natAt24 (bs : List Byte) (i : Nat) : Nat := natAt8 bs i * 65536 + natAt16 bs (i + 1)

/-- An unsigned four-byte field, most significant byte first (Fmax). -/
def natAt32 (bs : List Byte) (i : Nat) : Nat := natAt16 bs i * 65536 + natAt16 bs (i + 2)

/-- One byte holding a number. -/
def out8 (n : Nat) : List Byte := [BitVec.ofNat 8 n]

/-- A 16-bit pattern as two bytes, most significant byte first (R182). -/
def outWord (w : BitVec 16) : List Byte := [w.extractLsb' 8 8, w.extractLsb' 0 8]

/-- A number as two bytes. -/
def out16 (n : Nat) : List Byte := outWord (BitVec.ofNat 16 n)

/-- A number as three bytes. -/
def out24 (n : Nat) : List Byte := out8 (n / 65536) ++ out16 n

/-- A number as four bytes. -/
def out32 (n : Nat) : List Byte := out16 (n / 65536) ++ out16 n

/-- A flag as one byte, 0 or 1. -/
def outBool (b : Bool) : List Byte := [if b then 1 else 0]

/-- An optional 16-bit field as its present byte and its value, 0 when absent (R171, R173). -/
def outOptWord : Option (BitVec 16) → List Byte
  | some w => out8 1 ++ outWord w
  | none => out8 0 ++ outWord 0

/-- One bit of the check code (R183). -/
def crcBit (r : BitVec 16) : BitVec 16 :=
  if r.getLsbD 15 then (r <<< 1) ^^^ 0x1021#16 else r <<< 1

/-- One byte of the check code (R183): the byte into the upper eight bits, then eight shifts. -/
def crcByte (r : BitVec 16) (b : Byte) : BitVec 16 :=
  crcBit (crcBit (crcBit (crcBit (crcBit (crcBit (crcBit (crcBit (r ^^^ (b ++ 0#8)))))))))

/-- The check code over a run of bytes (R183). -/
def crc (bs : List Byte) : BitVec 16 := bs.foldl crcByte 0xFFFF#16

/-- A frame as sent: its bytes closed with their check code, high byte first (R183). -/
def sealFrame (bs : List Byte) : List Byte := bs ++ outWord (crc bs)

/-- The first test on a delimited frame (R31, R106): the last two bytes carry the check code of the
bytes before them; a frame of fewer than 3 bytes is a mismatch. -/
def crcOk (bs : List Byte) : Bool :=
  decide (3 ≤ bs.length) && crc (bs.take (bs.length - 2)) == wordAt bs (bs.length - 2)

end Sys2Proof.Machine
end

