-- ==== Sys2Proof/Machine/Operands.lean ====
section
/-! DEFINITION. The codes that cross a port (section 11.4) and the checks of a request's operands:
indices (R159), enumeration codes, and numbers replaced by their bounds. -/

namespace Sys2Proof.Machine

/-! ## Codes sent -/

def GState.code : GState → Nat
  | .idle => 0
  | .armed => 1
  | .fadeIn => 2
  | .run => 3
  | .fadeOut => 4
  | .parking => 5
  | .held => 6
  | .retryWait => 7
  | .faulted => 8

def Source.code : Source → Nat
  | .stream => 0
  | .generator => 1

def Mode.code : Mode → Nat
  | .latch => 0
  | .retry => 1
  | .report => 2
  | .off => 3

def Action.code : Action → Nat
  | .park => 0
  | .hold => 1
  | .null => 2

def Pattern.code : Pattern → Nat
  | .constant => 0
  | .square => 1
  | .ramp => 2
  | .noise => 3

def Polarity.code : Polarity → Nat
  | .normal => 0
  | .inverted => 1

def Role.code : Role → Nat
  | .primary => 0
  | .trim => 1

def Admission.code : Admission → Nat
  | .all => 0
  | .taggedOnly => 1
  | .untaggedOnly => 2

def ClassAction.code : ClassAction → Nat
  | .execute => 0
  | .executeEcho => 1
  | .discard => 2

def WdState.code : WdState → Nat
  | .disabled => 0
  | .running => 1
  | .expired => 2

/-- Resume target in READ_GROUP_STATUS (R173): a state code. -/
def Resume.code : Resume → Nat
  | .armed => 1
  | .fadeIn => 2

/-- End target in READ_FAULTS (R174): a state code, or 0xFF for none. -/
def targetCode : Option EndTarget → Nat
  | some .idle => 0
  | some .retryWait => 7
  | some .faulted => 8
  | none => 255

/-- Action in force in READ_FAULTS (R174). -/
def actionCode : Option Action → Nat
  | some a => a.code
  | none => 255

/-- First-trip mode in READ_FAULTS (R174): 0 LATCH, 1 RETRY. -/
def firstModeCode (m : Mode) : Nat := if m = .retry then 1 else 0

/-- A status code (R158). -/
def Status.code : Status → Nat
  | .ok => 0x00
  | .adjusted => 0x01
  | .badOpcode => 0x10
  | .badLength => 0x11
  | .badIndex => 0x12
  | .badValue => 0x13
  | .wrongState => 0x20
  | .inUse => 0x21
  | .conflict => 0x22
  | .notReady => 0x23
  | .interlockOpen => 0x24
  | .lockout => 0x25

def UpKind.code : UpKind → Nat
  | .response => 1
  | .echo => 2
  | .telemetry => 3

def unitCode : TickUnit → Nat
  | .ms10 => 0
  | .s1 => 1

def portCode : Port → Nat
  | .a => 0
  | .b => 1

/-- The rate in hertz (R7). -/
def Rate.hertz : Rate → Nat
  | .hz256 => 256
  | .hz512 => 512
  | .hz1024 => 1024
  | .hz2048 => 2048

/-- A class's place in the class action table. -/
def ReqClass.ix : ReqClass → Fin 7
  | .supervision => 0
  | .map => 1
  | .setup => 2
  | .run => 3
  | .fault => 4
  | .stats => 5
  | .device => 6

/-- A class's tag (R157, R176). -/
def ReqClass.tag (c : ReqClass) : BitVec 12 := 0xFF0#12 + BitVec.ofNat 12 c.ix.val

/-! ## Codes received -/

def modeOf : Nat → Option Mode
  | 0 => some .latch
  | 1 => some .retry
  | 2 => some .report
  | 3 => some .off
  | _ => none

def actionOf : Nat → Option Action
  | 0 => some .park
  | 1 => some .hold
  | 2 => some .null
  | _ => none

def patternOf : Nat → Option Pattern
  | 0 => some .constant
  | 1 => some .square
  | 2 => some .ramp
  | 3 => some .noise
  | _ => none

def polarityOf : Nat → Option Polarity
  | 0 => some .normal
  | 1 => some .inverted
  | _ => none

def roleOf : Nat → Option Role
  | 0 => some .primary
  | 1 => some .trim
  | _ => none

def admissionOf : Nat → Option Admission
  | 0 => some .all
  | 1 => some .taggedOnly
  | 2 => some .untaggedOnly
  | _ => none

def classActionOf : Nat → Option ClassAction
  | 0 => some .execute
  | 1 => some .executeEcho
  | 2 => some .discard
  | _ => none

def tickUnitOf : Nat → Option TickUnit
  | 0 => some .ms10
  | 1 => some .s1
  | _ => none

def portOf : Nat → Option Port
  | 0 => some .a
  | 1 => some .b
  | _ => none

def rateOf : Nat → Option Rate
  | 256 => some .hz256
  | 512 => some .hz512
  | 1024 => some .hz1024
  | 2048 => some .hz2048
  | _ => none

/-- The class a tag names, 0xFF0 to 0xFF6 (R159, R160). -/
def classOfTag : Nat → Option ReqClass
  | 0xFF0 => some .supervision
  | 0xFF1 => some .map
  | 0xFF2 => some .setup
  | 0xFF3 => some .run
  | 0xFF4 => some .fault
  | 0xFF5 => some .stats
  | 0xFF6 => some .device
  | _ => none

/-- An index below a bound (R159). -/
def indexOf (n : Nat) (i : Nat) : Option (Fin n) := if h : i < n then some ⟨i, h⟩ else none

/-- A channel number as its group and lane: c div 6 and c mod 6 (R70). -/
def channelOf (c : Nat) : Option (GroupIx × LaneIx) :=
  if h : c < 24 then some (⟨c / 6, by omega⟩, ⟨c % 6, by omega⟩) else none

/-- The channel number of a lane of a group (R70). -/
def channelNumber (g : GroupIx) (l : LaneIx) : Nat := 6 * g.val + l.val

/-! ## Numbers replaced by their bounds -/

/-- A number moved to the nearer bound of its range (R29). -/
def within (lo hi n : Nat) : Nat := max lo (min hi n)

/-- A signed threshold below 0 stored as 0 (R118). -/
def nonNegative (w : Du) : Nat := w.toInt.toNat

/-- RETRY with HOLD is stored as RETRY with PARK (R29, R118). -/
def storedAction (m : Mode) (a : Action) : Action :=
  match m, a with
  | .retry, .hold => .park
  | _, a => a

/-- A treatment read from its mode and action codes, as stored. -/
def treatmentAt (bs : List Byte) (i : Nat) : Option Treatment :=
  match modeOf (natAt8 bs i), actionOf (natAt8 bs (i + 1)) with
  | some m, some a => some { mode := m, action := storedAction m a }
  | _, _ => none

/-- Whether a tag operand lies in 0x001 to 0xFEF. -/
def streamTagOk (t : Nat) : Bool := decide (0x001 ≤ t) && decide (t ≤ 0xFEF)

/-- Whether a lane mask operand names lanes 0 to 5 only. -/
def laneMaskOk (m : BitVec 8) : Bool := m &&& 0xC0#8 == 0#8

/-- Whether a port mask operand names ports A and B only. -/
def portMaskOk (m : BitVec 8) : Bool := m &&& 0xFC#8 == 0#8

end Sys2Proof.Machine
end

