-- ==== Sys2Proof/Machine/Ops.lean ====
section
/-! DEFINITION. The named operations over the device's state: ports, groups, counters, the upstream
transmitter and its queues, telemetry slots, and the trip unit's delivery. -/

namespace Sys2Proof.Machine

/-- The other playback port. -/
def otherPort : Port → Port
  | .a => .b
  | .b => .a

/-- A port's state. -/
def State.port (s : State) : Port → PortState
  | .a => s.portA
  | .b => s.portB

/-- A port's state replaced. -/
def State.setPort (s : State) (p : Port) (x : PortState) : State :=
  match p with
  | .a => { s with portA := x }
  | .b => { s with portB := x }

/-- A port's state replaced by a function of itself. -/
def State.modPort (s : State) (p : Port) (f : PortState → PortState) : State := s.setPort p (f (s.port p))

/-- A group. -/
def State.group (s : State) (g : GroupIx) : Group := s.groups.get g

/-- A group replaced. -/
def State.setGroup (s : State) (g : GroupIx) (x : Group) : State := { s with groups := s.groups.set g x }

/-- A group replaced by a function of itself. -/
def State.modGroup (s : State) (g : GroupIx) (f : Group → Group) : State := s.setGroup g (f (s.group g))

/-- A channel of a group replaced by a function of itself. -/
def Group.modChan (g : Group) (l : LaneIx) (f : Channel → Channel) : Group :=
  { g with chans := g.chans.modify l f }

/-- Whether the watchdog is EXPIRED (R130). -/
def State.wdExpired (s : State) : Bool := s.watchdog.state == .expired

/-! ## Port counters -/

def PortState.countReceived (p : PortState) : PortState :=
  { p with ctr := { p.ctr with framesReceived := satAdd p.ctr.framesReceived 1 } }

def PortState.countCheckError (p : PortState) : PortState :=
  { p with ctr := { p.ctr with checkErrors := satAdd p.ctr.checkErrors 1 } }

def PortState.countMalformed (p : PortState) : PortState :=
  { p with ctr := { p.ctr with malformed := satAdd p.ctr.malformed 1 } }

def PortState.countAdmitRefused (p : PortState) : PortState :=
  { p with ctr := { p.ctr with admitRefused := satAdd p.ctr.admitRefused 1 } }

def PortState.countUnknownTag (p : PortState) : PortState :=
  { p with ctr := { p.ctr with unknownTag := satAdd p.ctr.unknownTag 1 } }

def PortState.countUnknownClass (p : PortState) : PortState :=
  { p with ctr := { p.ctr with unknownClass := satAdd p.ctr.unknownClass 1 } }

def PortState.countDiscarded (p : PortState) : PortState :=
  { p with ctr := { p.ctr with classDiscarded := satAdd p.ctr.classDiscarded 1 } }

def PortState.countOverflow (p : PortState) : PortState :=
  { p with ctr := { p.ctr with requestOverflow := satAdd p.ctr.requestOverflow 1 } }

def PortState.countEchoDropped (p : PortState) : PortState :=
  { p with ctr := { p.ctr with echoDropped := satAdd p.ctr.echoDropped 1 } }

def PortState.countReplaced (p : PortState) : PortState :=
  { p with ctr := { p.ctr with telemetryReplaced := satAdd p.ctr.telemetryReplaced 1 } }

def PortState.countExcess (p : PortState) : PortState :=
  { p with ctr := { p.ctr with excessSamples := satAdd p.ctr.excessSamples 1 } }

/-! ## The upstream transmitter (R181) -/

/-- An upstream frame as bytes (R185). -/
def UpFrame.bytes (f : UpFrame) : List Byte :=
  sealFrame (outWord (f.tag.zeroExtend 16) ++ out8 f.kind.code
    ++ out8 (f.unit.toNat + (if f.kind = .echo then 16 * portCode f.origin else 0))
    ++ [f.ident, f.status] ++ out16 f.payload.length ++ f.payload)

/-- The first occupied telemetry slot in rotating group order (R181). -/
def PortState.nextSlot (p : PortState) : Option (GroupIx × UpFrame) :=
  [p.nextGroup, p.nextGroup + 1, p.nextGroup + 2, p.nextGroup + 3].findSome? fun g =>
    (p.slots.get g).map fun f => (g, f)

/-- A transmitter that is sending nothing chooses its next frame (R181): the head of the response
queue, else the head of the echo queue, else a telemetry record, which leaves its slot. -/
def PortState.choose (p : PortState) : PortState :=
  match p.sending with
  | some _ => p
  | none =>
    match p.responses with
    | r :: _ => { p with sending := some { frame := r.frame, source := .response, landing := r.landing } }
    | [] =>
      match p.echoes with
      | e :: _ => { p with sending := some { frame := e, source := .echo, landing := none } }
      | [] =>
        match p.nextSlot with
        | some (g, f) =>
          { p with
            slots := p.slots.set g none
            nextGroup := g + 1
            sending := some { frame := f, source := .detached, landing := none } }
        | none => p

/-- A response at the tail of the response queue (R164), and the transmitter's choice if it is free. -/
def PortState.pushResponse (p : PortState) (r : QResponse) : PortState :=
  { p with responses := p.responses ++ [r] }.choose

/-- An echo at the tail of the echo queue, or dropped and counted when the queue holds 4 (R164). -/
def PortState.pushEcho (p : PortState) (e : UpFrame) : PortState :=
  if p.echoes.length < Config.portQueueCapacity then { p with echoes := p.echoes ++ [e] }.choose
  else p.countEchoDropped

/-- A telemetry record into its group's slot, replacing an unsent one (R180). -/
def PortState.placeRecord (p : PortState) (g : GroupIx) (f : UpFrame) : PortState :=
  let p' := if (p.slots.get g).isSome then p.countReplaced else p
  { p' with slots := p'.slots.set g (some f) }.choose

/-! ## Upstream frames built -/

/-- The telemetry payload (R186). -/
def Group.telemetryPayload (g : Group) : List Byte :=
  outWord g.outSeq ++ out16 g.env ++ out16 g.att ++ out16 g.level ++ out8 g.queue.length
    ++ out8 g.retryCount ++ outWord g.latchedSet
    ++ (lanes.flatMap fun l => outWord (g.chans.get l).yPrev)

/-- A telemetry record as the upstream frame that carries it (R179, R185). -/
def telemetryFrame (straps : Straps) (ix : GroupIx) (g : Group) : UpFrame :=
  { tag := Config.telemetryTag, kind := .telemetry, unit := straps.unitId, origin := .a,
    ident := BitVec.ofNat 8 ix.val, status := BitVec.ofNat 8 g.state.code,
    payload := g.telemetryPayload }

/-- The response to a request (R157, R185). -/
def responseFrame (straps : Straps) (q : Request) (st : Status) (payload : List Byte) : UpFrame :=
  { tag := q.cls.tag, kind := .response, unit := straps.unitId, origin := .a, ident := q.id,
    status := BitVec.ofNat 8 st.code, payload := payload }

/-- The echo of a request (R164, R185): its payload is the opcode and the operands. -/
def echoFrame (straps : Straps) (origin : Port) (q : Request) (st : Status) : UpFrame :=
  { tag := q.cls.tag, kind := .echo, unit := straps.unitId, origin := origin, ident := q.id,
    status := BitVec.ofNat 8 st.code, payload := q.opcode :: q.operands }

/-! ## The trip unit's delivery -/

/-- Monitor events handed to the trip unit for a group, in order, with the lines they move (R116, R155). -/
def State.deliver (s : State) (g : GroupIx) (evs : List MonEvent) : State :=
  (s.modGroup g fun x => x.tripAll evs).driveLines

end Sys2Proof.Machine
end

