-- ==== Sys2Proof/Machine/Monitors.lean ====
section
/-! DEFINITION. The protection monitors (Chapter 7): the events of the group monitors, the evaluation
of a channel's monitors, and the question whether a kind's condition is present. -/

namespace Sys2Proof.Machine

/-- The event of a group monitor, handed on unless its mode is OFF (R115, R125 to R129). -/
def groupEvent (k : Kind) (lane : Option LaneIx) (t : Treatment) : List MonEvent :=
  if t.mode = .off then []
  else [{ kind := k, lane := lane, mode := t.mode, action := some t.action, observed := none }]

/-- The FLOW event: mode REPORT and no action (R88, R115). -/
def flowEvent : MonEvent :=
  { kind := .flow, lane := none, mode := .report, action := none, observed := none }

/-- The kind a channel monitor raises. -/
def kindOf : ChannelKind → Kind
  | .position => .position
  | .force => .force
  | .error => .error

/-- The three channel monitors in their order within a lane (R116). -/
def channelKinds : List ChannelKind := [.position, .force, .error]

/-- A limit set's monitor of a kind. -/
def LimitSet.mon (ls : LimitSet) : ChannelKind → LimitMon
  | .position => ls.position
  | .force => ls.force
  | .error => ls.error

/-- A channel's monitor record of a kind. -/
def Channel.mon (c : Channel) : ChannelKind → MonRec
  | .position => c.position
  | .force => c.force
  | .error => c.error

/-- The value of a triple that a monitor judges. -/
def Triple.value (t : Triple) : ChannelKind → Du
  | .position => t.position
  | .force => t.force
  | .error => t.error

/-- Whether a channel monitor's condition is present for a triple (R121). -/
def condPresent (ls : LimitSet) (t : Triple) : ChannelKind → Bool
  | .position => decide (t.position.toInt < ls.posLo.toInt) || decide (ls.posHi.toInt < t.position.toInt)
  | .force => decide (ls.forceMax < t.force.toInt.natAbs)
  | .error => decide (ls.errMax < t.error.toInt.natAbs)

/-- One monitor's record after an evaluation, and whether it trips (R122). -/
def MonRec.evaluate (r : MonRec) (m : LimitMon) (present : Bool) : MonRec × Bool :=
  if m.mode = .off then (clearedMonRec, false)
  else
    let count := if present then min (r.count + 1) Config.deglitchMax else 0
    let tripped := present && r.tripped
    let trips := decide (count = m.deglitch) && !tripped
    ({ cond := present, count := count, tripped := tripped || trips }, trips)

/-- The outcome of one of a channel's monitors at a triple (R122). -/
def Channel.evalKind (c : Channel) (ls : LimitSet) (t : Triple) (k : ChannelKind) : MonRec × Bool :=
  (c.mon k).evaluate (ls.mon k) (condPresent ls t k)

/-- A channel after the evaluation of its three monitors (R122). -/
def Channel.evaluate (c : Channel) (ls : LimitSet) (t : Triple) : Channel :=
  { c with
    position := (c.evalKind ls t .position).1
    force := (c.evalKind ls t .force).1
    error := (c.evalKind ls t .error).1 }

/-- The event of one of a channel's monitors at a triple, if it trips (R122). -/
def Channel.eventOf (c : Channel) (ls : LimitSet) (t : Triple) (l : LaneIx) (k : ChannelKind) :
    List MonEvent :=
  if (c.evalKind ls t k).2 then
    [{ kind := kindOf k, lane := some l, mode := (ls.mon k).mode, action := some (ls.mon k).action,
       observed := some (t.value k) }]
  else []

/-- The limit set that judges a channel (R120). -/
def Channel.limits (c : Channel) (sets : Tab 16 LimitSet) : LimitSet := sets.get c.profile.limitSet

/-- Every lane of a group evaluated (R122). -/
def Group.evaluate (g : Group) (sets : Tab 16 LimitSet) (ts : Tab 6 Triple) : Group :=
  { g with chans := g.chans.mapIx fun l c => c.evaluate (c.limits sets) (ts.get l) }

/-- The events an accepted feedback frame raises: ascending lanes, and POSITION, FORCE, ERROR within a
lane (R116, R122). -/
def Group.evalEvents (g : Group) (sets : Tab 16 LimitSet) (ts : Tab 6 Triple) : List MonEvent :=
  lanes.flatMap fun l =>
    let c := g.chans.get l
    channelKinds.flatMap fun k => c.eventOf (c.limits sets) (ts.get l) l k

/-- The states in which a group is watched: feedback is evaluated and its absence counted, and a
watchdog expiry raises an event (R110, R111, R129). -/
def GState.watched : GState → Bool
  | .idle => false
  | .faulted => false
  | _ => true

/-- Whether any of a group's six channels has a monitor's condition flag set (R130). -/
def Group.anyCond (g : Group) (k : ChannelKind) : Bool := lanes.any fun l => ((g.chans.get l).mon k).cond

/-- Whether a kind's condition is present for a group (R130), from its own state, whether the
watchdog is EXPIRED and whether the sensed INTERLOCK state is open. -/
def Group.present (g : Group) (wdExpired interlockOpen : Bool) : Kind → Bool
  | .position => g.anyCond .position
  | .force => g.anyCond .force
  | .error => g.anyCond .error
  | .fbLoss => decide (g.cfg.fbLimit < g.sinceFb)
  | .watchdog => wdExpired
  | .interlock => interlockOpen
  | .flow => decide (g.att < Config.fullScale)
  | .starve => false
  | .seqBreak => false
  | .clampPersist => false

/-- Whether any ACTION member's condition is present (R149). -/
def Group.actionPresent (g : Group) (wdExpired interlockOpen : Bool) : Bool :=
  kindList.any fun k => g.classOf k == some .action && g.present wdExpired interlockOpen k

/-- The kind with a place in the latched fault set. -/
def kindAt (i : Fin 10) : Kind := kindList.getD i.val .position

/-- CLEAR_FAULTS' removal of every member whose condition is absent (R152). -/
def Group.removeAbsent (g : Group) (wdExpired interlockOpen : Bool) : Group :=
  { g with
    latched := g.latched.mapIx fun i m =>
      if g.present wdExpired interlockOpen (kindAt i) then m else none }

/-- CLEAR_FAULTS' effect on the group's state after the removal (R153). -/
def Group.release (g : Group) : Group :=
  if g.holdsAction then g
  else
    match g.state with
    | .faulted => g.enterIdle
    | .held => { g.enterParking with action := some .park, target := some .idle }
    | _ => g

end Sys2Proof.Machine
end

