-- ==== Sys2Proof/Machine/Playout.lean ====
section
/-! DEFINITION. A group's playout (R8), step by step, on the group alone. The device's part (the servo
link's queue of frames, the telemetry slot, the lines) is in PlayoutCommands.lean. -/

namespace Sys2Proof.Machine

/-- The live states (R9, R73). -/
def GState.live : GState → Bool
  | .fadeIn => true
  | .run => true
  | .fadeOut => true
  | _ => false

/-- FADE_IN and RUN, where the generated count counts (R97). -/
def GState.running : GState → Bool
  | .fadeIn => true
  | .run => true
  | _ => false

/-- Step 1 (R3), with the PLAYOUTS counter (R6). -/
def Group.advance (g : Group) : Group :=
  { g with
    outSeq := g.outSeq + 1
    ctr := { g.ctr with playouts := satAdd g.ctr.playouts 1 } }

/-- The generator's part of step 2 (R93). -/
def Group.generate (g : Group) : Group :=
  let v : Du := BitVec.ofInt 16 (genSample g.gen g.genRun)
  { g with
    chans := g.chans.mapIx fun l c => { c with d := if g.gen.mask.getLsbD l.val then v else 0 }
    genRun := genAdvance g.gen g.state.running g.genRun }

/-- Step 2: the sample source of the state (R9), and whether an underrun raises a STARVE event (R64). -/
def Group.obtain (g : Group) : Group × Bool :=
  match g.state with
  | .fadeIn | .run | .fadeOut =>
    match g.source with
    | .stream => g.take
    | .generator => (g.generate, false)
  | .parking | .held | .retryWait => (g.skip, false)
  | .idle | .armed | .faulted => (g, false)

/-- The envelope E after step 3 (R10). -/
def Group.nextEnv (g : Group) : Nat :=
  match g.state with
  | .fadeIn | .run =>
    if g.env < g.level then min g.level (g.env + g.cfg.fadeStep)
    else max g.level (g.env - g.cfg.fadeStep)
  | .fadeOut => g.env - g.cfg.fadeStep
  | .parking => g.env - g.cfg.parkStep
  | .idle | .armed | .held | .retryWait | .faulted => g.env

/-- Step 3 (R10). -/
def Group.stepEnv (g : Group) : Group := { g with env := g.nextEnv }

/-- The six channels after step 4 (R11, R73). -/
def Group.outputs (g : Group) : Tab 6 Channel :=
  match g.state with
  | .fadeIn | .run | .fadeOut => g.chans.map fun c => c.live (combinedFactor g.env g.att)
  | .parking => g.chans.map fun c => c.parking g.env
  | .held => g.chans.map Channel.hold
  | .idle | .armed | .retryWait | .faulted => g.chans.map Channel.rest

/-- The attenuation after step 4: the flow monitor runs at live playouts, after the six outputs (R88). -/
def Group.nextAtt (g : Group) : Nat :=
  if g.state.live then flowAdjust g.cfg (flowDemand g.chans g.outputs) g.att else g.att

/-- Step 4 (R11). -/
def Group.condition (g : Group) : Group := { g with chans := g.outputs, att := g.nextAtt }

/-- The lanes whose persistence counter reaches the limit at step 4, ascending (R85). -/
def Group.clampLanes (g : Group) : List LaneIx :=
  if g.state.live then
    lanes.filter fun l => persistReached g.cfg.clampLimit (g.chans.get l) (g.outputs.get l)
  else []

/-- Whether the flow monitor raises a FLOW event at step 4 (R88). -/
def Group.flowRaised (g : Group) : Bool :=
  g.state.live && flowExceeded g.cfg (flowDemand g.chans g.outputs)

/-- The enable flag (R4). -/
def Group.enable (g : Group) : Bool := !decide (g.state = .idle) && !g.holds .interlock

/-- The six outputs as bytes, lane 0 first (R186, R187). -/
def Group.outputBytes (g : Group) : List Byte := lanes.flatMap fun l => outWord (g.chans.get l).yPrev

/-- Step 5: the command frame (R103, R187). -/
def Group.commandFrame (g : Group) (ix : GroupIx) : List Byte :=
  sealFrame (out8 ix.val ++ outBool g.enable ++ outWord g.outSeq ++ g.outputBytes)

/-- Step 6, the playouts-since-feedback count, by the state the playout began in (R111). -/
def Group.countSince (g : Group) : Group :=
  if g.state.watched then { g with sinceFb := countUp g.sinceFb } else g

/-- Whether that increase raises an FB_LOSS event (R127). -/
def Group.fbLossRaised (g : Group) : Bool :=
  g.state.watched && decide (g.sinceFb = g.cfg.fbLimit) && decide (g.sinceFb < Config.countMax)

/-- Whether every output stands at its park value (R13, R14). -/
def Group.atPark (g : Group) : Bool :=
  lanes.all fun l => (g.chans.get l).yPrev == (g.chans.get l).profile.park

/-- Whether a fade-out or parking completes (R13, R14). -/
def Group.arrived (g : Group) : Bool := decide (g.env = 0) && g.atPark

/-- The retry timer's expiry, judged at once (R149, R150). -/
def Group.judgeExpiry (g : Group) (wdExpired interlockOpen : Bool) : Group :=
  if g.actionPresent wdExpired interlockOpen then { g with retryTimer := g.cfg.retryTime }
  else g.resumeRun

/-- The retry timer at a RETRY_WAIT playout (R149). -/
def Group.tickRetry (g : Group) (wdExpired interlockOpen : Bool) : Group :=
  let g' := { g with retryTimer := g.retryTimer - 1 }
  if g'.retryTimer = 0 then g'.judgeExpiry wdExpired interlockOpen else g'

/-- Burst completion (R97). -/
def Group.completeBurst (g : Group) : Group :=
  { g with genDone := true, genRun := { g.genRun with ended := true }, state := .fadeOut }

/-- The completions of step 6 (R12 to R14, R97, R98, R149). `before` is the generator's runtime part
as the playout found it. -/
def Group.complete (g : Group) (before : GenRun) (wdExpired interlockOpen : Bool) : Group :=
  match g.state with
  | .fadeIn | .run =>
    if g.source = .generator ∧ burstDone g.gen before g.genRun then g.completeBurst
    else if g.source = .generator ∧ g.genRun.ended = true then { g with state := .fadeOut }
    else if g.state = .fadeIn ∧ g.env = g.level then { g with state := .run }
    else g
  | .fadeOut => if g.arrived then g.completeFadeOut else g
  | .parking => if g.arrived then g.enterTarget else g
  | .retryWait => g.tickRetry wdExpired interlockOpen
  | .idle | .armed | .held | .faulted => g

/-- Step 6, telemetry decimation (R179): the counter, and whether a record is produced. -/
def Group.decimate (g : Group) : Group × Bool :=
  if g.cfg.telemK = 0 then (g, false)
  else if g.telemCount + 1 = g.cfg.telemK then ({ g with telemCount := 0 }, true)
  else ({ g with telemCount := g.telemCount + 1 }, false)

/-- The group after steps 1 and 2. -/
def Group.sourced (g : Group) : Group := g.advance.obtain.1

/-- The group after steps 1 to 3. -/
def Group.stepped (g : Group) : Group := g.sourced.stepEnv

/-- The group after steps 1 to 4, as the command frame carries it (R8). -/
def Group.formed (g : Group) : Group := g.stepped.condition

/-- The group after the completions of step 6. -/
def Group.completed (g : Group) (wdExpired interlockOpen : Bool) : Group :=
  g.formed.countSince.complete g.genRun wdExpired interlockOpen

/-- The group after step 6 (R8). -/
def Group.settled (g : Group) (wdExpired interlockOpen : Bool) : Group :=
  (g.completed wdExpired interlockOpen).decimate.1

/-- Whether the playout raises the STARVE monitor's event at step 2 (R64). -/
def Group.starveRaised (g : Group) : Bool := g.advance.obtain.2

/-- Whether the playout produces a telemetry record at step 6 (R179). -/
def Group.telemetryDue (g : Group) (wdExpired interlockOpen : Bool) : Bool :=
  (g.completed wdExpired interlockOpen).decimate.2

/-- Whether the playout completes a burst (R97). -/
def Group.burstCompletes (g : Group) : Bool :=
  g.state.running && decide (g.source = .generator) && burstDone g.gen g.genRun g.sourced.genRun

/-- Whether the retry timer expires at the playout (R149). -/
def Group.retryExpires (g : Group) : Bool := decide (g.state = .retryWait) && decide (g.retryTimer - 1 = 0)

/-- The monitor events the playout hands to the trip unit at step 7, in their order (R15, R116). -/
def Group.playoutEvents (g : Group) : List MonEvent :=
  (if g.starveRaised then groupEvent .starve none g.cfg.starve else [])
    ++ (g.stepped.clampLanes.flatMap fun l => groupEvent .clampPersist (some l) g.cfg.clampPersist)
    ++ (if g.stepped.flowRaised then [flowEvent] else [])
    ++ (if g.formed.fbLossRaised then groupEvent .fbLoss none g.cfg.fbLoss else [])

/-- The group after its whole playout (R8). -/
def Group.played (g : Group) (wdExpired interlockOpen : Bool) : Group :=
  (g.settled wdExpired interlockOpen).tripAll g.playoutEvents

end Sys2Proof.Machine
end

