-- ==== Sys2Proof/Machine/PlayoutCommands.lean ====
section
/-! DEFINITION. PLAYOUT (R8) and the rows that name what comes about inside one: RETRY_TIMER_EXPIRY,
BURST_COMPLETION, STARVE_EVENT, CLAMP_PERSIST_EVENT, FB_LOSS_EVENT and TELEMETRY_RECORD. Each of those
is the whole playout at which it comes about; where it does not come about nothing happens
(notes/assumptions/2.md). -/

namespace Sys2Proof.Machine

/-- A group after its playout in the device's state. -/
def State.playedGroup (s : State) (g : GroupIx) : Group :=
  (s.group g).played s.wdExpired s.interlockOpen

/-- A group after step 6 of its playout in the device's state, as a telemetry record reports it. -/
def State.settledGroup (s : State) (g : GroupIx) : Group :=
  (s.group g).settled s.wdExpired s.interlockOpen

/-- The command frame of a group's playout (R103). -/
def State.commandFrame (s : State) (g : GroupIx) : List Byte := (s.group g).formed.commandFrame g

/-- The telemetry record of a group's playout, into its port's slot (R179, R180). -/
def State.report (s : State) (g : GroupIx) (x : Group) : State :=
  s.modPort x.cfg.telemPort fun p => p.placeRecord g (telemetryFrame s.straps g x)

/-- A group's playout (R8): the group's own work, its command frame handed to the servo link, and its
telemetry record when one is due. -/
def State.playout (s : State) (g : GroupIx) : State :=
  let s1 := { s.setGroup g (s.playedGroup g) with servoSent := s.servoSent ++ [s.commandFrame g] }
  let s2 :=
    if (s.group g).telemetryDue s.wdExpired s.interlockOpen then s1.report g (s.settledGroup g) else s1
  s2.driveLines

/-- PLAYOUT (R8). -/
def execPlayout (g : GroupIx) (s : State) : Host.Outcome State Fault Refusal := .next (s.playout g)

/-- The step an event names, where the event comes about; elsewhere nothing happens. -/
def whenArises (arises : Bool) (t s : State) : Host.Outcome State Fault Refusal :=
  .next (if arises then t else s)

/-- RETRY_TIMER_EXPIRY (R149, R150). -/
def execRetryTimerExpiry (g : GroupIx) (s : State) : Host.Outcome State Fault Refusal :=
  whenArises (s.group g).retryExpires (s.playout g) s

/-- BURST_COMPLETION (R97). -/
def execBurstCompletion (g : GroupIx) (s : State) : Host.Outcome State Fault Refusal :=
  whenArises (s.group g).burstCompletes (s.playout g) s

/-- STARVE_EVENT (R64, R125). -/
def execStarveEvent (g : GroupIx) (s : State) : Host.Outcome State Fault Refusal :=
  whenArises (s.group g).starveRaised (s.playout g) s

/-- CLAMP_PERSIST_EVENT (R85, R128). -/
def execClampPersistEvent (g : GroupIx) (l : LaneIx) (s : State) : Host.Outcome State Fault Refusal :=
  whenArises ((s.group g).stepped.clampLanes.contains l) (s.playout g) s

/-- FB_LOSS_EVENT (R111, R127). -/
def execFbLossEvent (g : GroupIx) (s : State) : Host.Outcome State Fault Refusal :=
  whenArises (s.group g).formed.fbLossRaised (s.playout g) s

/-- TELEMETRY_RECORD (R179, R180). -/
def execTelemetryRecord (g : GroupIx) (s : State) : Host.Outcome State Fault Refusal :=
  whenArises ((s.group g).telemetryDue s.wdExpired s.interlockOpen) (s.playout g) s

end Sys2Proof.Machine
end

