-- ==== Sys2Proof/Machine/Servo.lean ====
section
/-! DEFINITION. Feedback on the servo link (Chapter 6) and its evaluation by the channel monitors. -/

namespace Sys2Proof.Machine

/-- The length of a feedback frame (R187). -/
def feedbackLength : Nat := 42

/-- The group a feedback frame names, if it lies in 0 to 3 (R107, R187). -/
def feedbackGroup (bs : List Byte) : Option GroupIx := indexOf 4 (natAt8 bs 0)

/-- The echo sequence of a feedback frame (R187). -/
def feedbackEcho (bs : List Byte) : Seq := wordAt bs 2

/-- The six triples of a feedback frame (R187). -/
def feedbackTriples (bs : List Byte) : Tab 6 Triple :=
  Tab.of fun l =>
    { position := wordAt bs (4 + 6 * l.val)
      force := wordAt bs (6 + 6 * l.val)
      error := wordAt bs (8 + 6 * l.val) }

/-- Whether a sequence number is newer than another (scope, Conventions): the remainder lies in 1 to 32767. -/
def newer (a b : Seq) : Bool := decide (1 ≤ (a - b).toNat) && decide ((a - b).toNat ≤ 32767)

/-- Step 4 (R109): newer than the last accepted echo. -/
def Group.echoNewer (g : Group) (e : Seq) : Bool :=
  match g.lastEcho with
  | none => true
  | some last => newer e last

/-- Step 5 (R109): within the lag window of the latest output sequence. -/
def Group.echoInWindow (g : Group) (e : Seq) : Bool := decide ((g.outSeq - e).toNat ≤ Config.lagWindow)

/-- What becomes of a feedback frame (R105): its checks in order. -/
inductive FeedbackFate where
  | checkError
  | malformed
  | stale (group : GroupIx)
  | accepted (group : GroupIx)
  deriving DecidableEq, Repr

/-- The table of R105. -/
def State.judgeFeedback (s : State) (bs : List Byte) : FeedbackFate :=
  if !crcOk bs then .checkError
  else if bs.length ≠ feedbackLength then .malformed
  else
    match feedbackGroup bs with
    | none => .malformed
    | some g =>
      if (s.group g).echoNewer (feedbackEcho bs) && (s.group g).echoInWindow (feedbackEcho bs) then
        .accepted g
      else .stale g

/-- Steps 1 to 3 of an accepted frame (R110). -/
def Group.acceptEcho (g : Group) (e : Seq) : Group :=
  { g with
    lastEcho := some e
    sinceFb := 0
    ctr := { g.ctr with feedbackAccepted := satAdd g.ctr.feedbackAccepted 1 } }

/-- FEEDBACK_STALE raised by 1 (R109). -/
def Group.countStaleFeedback (g : Group) : Group :=
  { g with ctr := { g.ctr with feedbackStale := satAdd g.ctr.feedbackStale 1 } }

/-- The events an accepted frame raises for its group (R110, R122): none in IDLE and FAULTED. -/
def State.feedbackEvents (s : State) (g : GroupIx) (bs : List Byte) : List MonEvent :=
  if (s.group g).state.watched then (s.group g).evalEvents s.limitSets (feedbackTriples bs) else []

/-- A group after an accepted frame, before the trip unit handles the events (R110). -/
def State.heard (s : State) (g : GroupIx) (bs : List Byte) : Group :=
  let x := (s.group g).acceptEcho (feedbackEcho bs)
  if x.state.watched then x.evaluate s.limitSets (feedbackTriples bs) else x

/-- The servo link's FRAMES_RECEIVED raised by 1 (R105). -/
def State.countServoFrame (s : State) : State :=
  { s with servo := { s.servo with framesReceived := satAdd s.servo.framesReceived 1 } }

/-- A feedback frame, in its one event (R105, R110). -/
def State.feedback (s : State) (bs : List Byte) : State :=
  let s1 := s.countServoFrame
  match s.judgeFeedback bs with
  | .checkError => { s1 with servo := { s1.servo with checkErrors := satAdd s1.servo.checkErrors 1 } }
  | .malformed => { s1 with servo := { s1.servo with malformed := satAdd s1.servo.malformed 1 } }
  | .stale g => s1.modGroup g Group.countStaleFeedback
  | .accepted g => (s1.setGroup g (s.heard g bs)).deliver g (s.feedbackEvents g bs)

/-- FEEDBACK_FRAME (R105). -/
def execFeedbackFrame (bs : List Byte) (s : State) : Host.Outcome State Fault Refusal :=
  .next (s.feedback bs)

/-- Whether a feedback frame trips a channel monitor of a lane (R122): it is accepted, for a watched
group, and that monitor's evaluation raises its event. -/
def State.channelTrips (s : State) (l : LaneIx) (k : ChannelKind) (bs : List Byte) : Bool :=
  match s.judgeFeedback bs with
  | .accepted g =>
    let c := (s.group g).chans.get l
    (s.group g).state.watched && (c.evalKind (c.limits s.limitSets) ((feedbackTriples bs).get l) k).2
  | _ => false

/-- CHANNEL_MONITOR_TRIP (R122): the feedback frame at which the monitor trips. -/
def execChannelMonitorTrip (l : LaneIx) (k : ChannelKind) (bs : List Byte) (s : State) :
    Host.Outcome State Fault Refusal :=
  whenArises (s.channelTrips l k bs) (s.feedback bs) s

end Sys2Proof.Machine
end

