-- ==== Sys2Proof/Machine/Supervision.lean ====
section
/-! DEFINITION. The supervision watchdog (section 7.6) and the INTERLOCK line (section 7.7). -/

namespace Sys2Proof.Machine

/-- The WATCHDOG event of a group at an expiry, for a group in a watched state (R129). -/
def Group.watchdogEvents (g : Group) : List MonEvent :=
  if g.state.watched then groupEvent .watchdog none g.cfg.watchdog else []

/-- An expiry: the watchdog EXPIRED with a count of 0, and its events for the watched groups (R129, R132). -/
def State.expireWatchdog (s : State) : State :=
  { s with
    watchdog := { s.watchdog with remaining := 0, state := .expired }
    groups := s.groups.map fun (g : Group) => g.tripAll g.watchdogEvents }.driveLines

/-- Whether a tick of a unit brings the remaining count to 0 (R132). -/
def Watchdog.expiresAt (w : Watchdog) (u : TickUnit) : Bool :=
  w.state == .running && w.unit == u && decide (w.remaining - 1 = 0)

/-- A timebase tick (R132). -/
def State.tick (s : State) (u : TickUnit) : State :=
  if s.watchdog.expiresAt u then s.expireWatchdog
  else if s.watchdog.state = .running ∧ s.watchdog.unit = u then
    { s with watchdog := { s.watchdog with remaining := s.watchdog.remaining - 1 } }
  else s

/-- WATCHDOG_TICK (R132). -/
def execWatchdogTick (u : TickUnit) (s : State) : Host.Outcome State Fault Refusal := .next (s.tick u)

/-- WATCHDOG_EXPIRY (R132): the tick of the watchdog's unit that brings the remaining count to 0. -/
def execWatchdogExpiry (s : State) : Host.Outcome State Fault Refusal :=
  whenArises (s.watchdog.expiresAt s.watchdog.unit) (s.tick s.watchdog.unit) s

/-- The reload of the watchdog to its period (R133). -/
def Watchdog.reload (w : Watchdog) : Watchdog :=
  { w with
    remaining := w.period
    state := if w.period = 0 then .disabled else .running }

/-- INTERLOCK_OPENING (R138, R148). The line open already, there is no change and so no event. -/
def execInterlockOpening (s : State) : Host.Outcome State Fault Refusal :=
  .next (if s.interlockOpen then s
    else
      { s with
        pins := { s.pins with interlockOpen := true }
        interlockOpen := true
        groups := s.groups.map Group.interlockTrip }.driveLines)

/-- INTERLOCK_CLOSING (R137, R138). The line closed already, there is no change and so no event. -/
def execInterlockClosing (s : State) : Host.Outcome State Fault Refusal :=
  .next (if s.interlockOpen then
      { s with pins := { s.pins with interlockOpen := false }, interlockOpen := false }
    else s)

end Sys2Proof.Machine
end

