-- ==== Sys2Proof/Machine/Upstream.lean ====
section
/-! DEFINITION. POWER_ON (R167), the completion of an upstream sending (R181), and the part reset that
lands in one (R170). -/

namespace Sys2Proof.Machine

/-- POWER_ON (R167): every block at its power-on values, the straps sampled from the pins. The
commands that wait are not the part's. -/
def execPowerOn (pins : Pins) (s : State) : Host.Outcome State Fault Refusal :=
  .next { State.fresh pins.straps pins with pending := s.pending }

/-- A port as a part reset leaves it (R170): at its power-on values, but a frame its transmitter has
begun is completed as it began, and stands in no queue from then on. -/
def PortState.land (p : PortState) : PortState :=
  { defaultPort with
    sending := p.sending.map fun f => { f with source := .detached }
    sent := p.sent }

/-- The landing of a part reset (R170). -/
def State.land (s : State) (k : ResetKind) : State :=
  let straps := match k with
    | .resample => s.pins.straps
    | .reload => s.straps
  { State.fresh straps s.pins with
    portA := s.portA.land
    portB := s.portB.land
    servoSent := s.servoSent
    freeCount := s.freeCount
    pending := s.pending }

/-- A port after its transmitter has completed a frame (R181): the frame is out, and a response or echo
leaves its queue. -/
def PortState.finish (p : PortState) (f : Sending) : PortState :=
  { p with
    sending := none
    responses := if f.source = .response then p.responses.tail else p.responses
    echoes := if f.source = .echo then p.echoes.tail else p.echoes
    sent := p.sent ++ [f.frame.bytes] }

/-- The completion of a sending on a port (R181), with the reset's landing in that of the RESET_PART
response (R170). A transmitter that sends nothing completes nothing. -/
def State.sendComplete (s : State) (p : Port) (levels : Straps) : State :=
  match (s.port p).sending with
  | none => s
  | some f =>
    let s1 := { s.modPort p (fun x => x.finish f) with pins := { s.pins with straps := levels } }
    match f.landing with
    | some k => s1.land k
    | none => s1.modPort p PortState.choose

/-- UPSTREAM_SEND_COMPLETE (R181). -/
def execUpstreamSendComplete (p : Port) (levels : Straps) (s : State) :
    Host.Outcome State Fault Refusal :=
  .next (s.sendComplete p levels)

end Sys2Proof.Machine
end

