-- ==== Sys2Proof/Machine/Ingress.lean ====
section
/-! DEFINITION. Playback port ingress, class dispatch and the stream classifier (Chapter 2, R160). -/

namespace Sys2Proof.Machine

/-- The bit of a port in a port mask: bit 0 for A, bit 1 for B (R176). -/
def portBit (p : Port) : Nat := portCode p

/-! ## The fields of a downstream frame (R184) -/

/-- The tag field, all sixteen bits. -/
def tagField (bs : List Byte) : Nat := natAt16 bs 0

/-- The sequence number of a stream frame. -/
def streamSeq (bs : List Byte) : Seq := wordAt bs 2

/-- The sample count n of a stream frame. -/
def sampleCount (bs : List Byte) : Nat := natAt8 bs 4

/-- The samples of a stream frame, in carried order. -/
def samplesOf (bs : List Byte) : List Du := (List.range (sampleCount bs)).map fun i => wordAt bs (6 + 2 * i)

/-- The operand bytes of a request. -/
def operandBytes (bs : List Byte) : List Byte := (bs.drop 6).take (natAt16 bs 4)

/-- Step 2 (R32): the frame is malformed. -/
def frameMalformed (bs : List Byte) : Bool :=
  if bs.length < 8 then true
  else if 0xFFF < tagField bs then true
  else if tagField bs < 0xFF0 then
    decide (byteAt bs 5 ≠ 0) || decide (sampleCount bs = 0) || decide (6 < sampleCount bs)
      || decide (bs.length ≠ 8 + 2 * sampleCount bs)
  else decide (120 < natAt16 bs 4) || decide (bs.length ≠ 8 + natAt16 bs 4)

/-! ## Class dispatch (R160) -/

/-- A port's class action for a class (R161). -/
def PortState.actionFor (p : PortState) (c : ReqClass) : ClassAction := p.actions.get c.ix

/-- Class dispatch of a request frame on its arrival port (R33, R160). -/
def PortState.dispatch (p : PortState) (bs : List Byte) : PortState :=
  match classOfTag (tagField bs) with
  | none => p.countUnknownClass
  | some c =>
    if p.actionFor c = .discard then p.countDiscarded
    else if Config.portQueueCapacity ≤ p.requests.length then p.countOverflow
    else
      { p with
        requests := p.requests ++
          [{ cls := c, id := byteAt bs 2, opcode := byteAt bs 3, operands := operandBytes bs,
             action := p.actionFor c }] }

/-! ## Admission and lookup (R34, R35, R39) -/

/-- Step 4: whether the admit policy refuses a frame (R34). -/
def admissionRefuses (a : Admission) (tag : Nat) : Bool :=
  match a with
  | .all => false
  | .taggedOnly => decide (tag = 0)
  | .untaggedOnly => decide (tag ≠ 0)

/-- Step 5: the effective tag; 0 when an untagged frame meets no default tag (R35). -/
def effectiveTag (pol : PortPolicy) (tag : Nat) : Nat := if tag = 0 then pol.defaultTag.toNat else tag

/-- Whether a stream map entry matches an effective tag and an arrival port (R39). -/
def MapEntry.matchesFrame (e : MapEntry) (tag : Nat) (p : Port) : Bool :=
  e.valid && decide (e.tag.toNat = tag) && e.portMask.getLsbD (portBit p)

/-- All map indices in ascending order. -/
def mapIndices : List MapIx := List.finRange 32

/-- Step 6: the entry that matches, if any (R39). At most one does (R40). -/
def State.lookup (s : State) (tag : Nat) (p : Port) : Option MapIx :=
  mapIndices.find? fun i => (s.map.get i).matchesFrame tag p

/-! ## Lane mapping (R44) -/

/-- How many lanes a mask names below a lane. -/
def lanesBelow (mask : BitVec 6) (l : LaneIx) : Nat :=
  (lanes.filter fun k => decide (k < l) && mask.getLsbD k.val).length

/-- How many lanes a mask names. -/
def laneCount (mask : BitVec 6) : Nat := (lanes.filter fun k => mask.getLsbD k.val).length

/-- The six lane slots: sample i goes to the i-th lane named, in ascending order. -/
def laneSlots (mask : BitVec 6) (samples : List Du) : Tab 6 (Option Du) :=
  Tab.of fun l => if mask.getLsbD l.val then samples[lanesBelow mask l]? else none

/-- Whether samples are left over. -/
def excess (mask : BitVec 6) (samples : List Du) : Bool := decide (laneCount mask < samples.length)

/-- EXCESS_SAMPLES of the arrival port, once for a frame with samples left over. -/
def State.noteExcess (s : State) (p : Port) (e : MapEntry) (bs : List Byte) : State :=
  if excess e.laneMask (samplesOf bs) then s.modPort p PortState.countExcess else s

/-! ## Role dispatch -/

/-- How a PRIMARY frame is dispatched (R43). -/
inductive PrimaryFate where
  | unbound
  | refused
  | queued
  deriving DecidableEq, Repr

/-- The table of R43, in its order. A group in IDLE has no bound entry. -/
def Group.judgePrimary (g : Group) (i : MapIx) : PrimaryFate :=
  if g.bound ≠ some i ∨ g.state = .idle then .unbound
  else if g.source = .generator then .refused
  else if g.state = .faulted then .refused
  else .queued

def Group.countUnbound (g : Group) : Group :=
  { g with ctr := { g.ctr with unboundDrops := satAdd g.ctr.unboundDrops 1 } }

def Group.countRefused (g : Group) : Group :=
  { g with ctr := { g.ctr with refusedDrops := satAdd g.ctr.refusedDrops 1 } }

/-- A drive frame's arrival at its group's queue, and the SEQ_BREAK event at its end (R45, R60, R126). -/
def State.driveArrival (s : State) (g : GroupIx) (seq : Seq) (slots : Tab 6 (Option Du)) : State :=
  let r := (s.group g).arrive seq slots
  let s1 := s.setGroup g r.1
  if r.2 then s1.deliver g (groupEvent .seqBreak none r.1.cfg.seqBreak) else s1

/-- A frame whose entry has role PRIMARY (R43 to R45). -/
def State.primaryFrame (s : State) (p : Port) (i : MapIx) (e : MapEntry) (bs : List Byte) : State :=
  match (s.group e.group).judgePrimary i with
  | .unbound => s.modGroup e.group Group.countUnbound
  | .refused => s.modGroup e.group Group.countRefused
  | .queued =>
    (s.noteExcess p e bs).driveArrival e.group (streamSeq bs) (laneSlots e.laneMask (samplesOf bs))

/-- Whether a TRIM entry accepts a frame's sequence number (R49). -/
def MapEntry.acceptsTrim (e : MapEntry) (seq : Seq) : Bool :=
  match e.lastTrim with
  | none => true
  | some last => newer seq last

/-- A channel's trim after a lane slot (R50). -/
def Channel.takeTrim (c : Channel) (slot : Option Du) : Channel :=
  match slot with
  | some v => { c with trim := v }
  | none => c

/-- The trims of a group after an accepted trim frame (R50). -/
def Group.takeTrims (g : Group) (slots : Tab 6 (Option Du)) : Group :=
  { g with chans := g.chans.mapIx fun l c => c.takeTrim (slots.get l) }

/-- A frame whose entry has role TRIM (R49, R50). -/
def State.trimFrame (s : State) (p : Port) (i : MapIx) (e : MapEntry) (bs : List Byte) : State :=
  if e.acceptsTrim (streamSeq bs) then
    let s1 := (s.noteExcess p e bs).modGroup e.group fun g => g.takeTrims (laneSlots e.laneMask (samplesOf bs))
    { s1 with map := s1.map.set i { e with lastTrim := some (streamSeq bs) } }
  else s.modGroup e.group Group.countStale

/-- A stream frame that has passed steps 1 to 3 (R34 to R39, R43). -/
def State.streamFrame (s : State) (p : Port) (bs : List Byte) : State :=
  let pol := (s.port p).policy
  if admissionRefuses pol.policy (tagField bs) then s.modPort p PortState.countAdmitRefused
  else if effectiveTag pol (tagField bs) = 0 then s.modPort p PortState.countAdmitRefused
  else
    match s.lookup (effectiveTag pol (tagField bs)) p with
    | none => s.modPort p PortState.countUnknownTag
    | some i =>
      match (s.map.get i).role with
      | .primary => s.primaryFrame p i (s.map.get i) bs
      | .trim => s.trimFrame p i (s.map.get i) bs

/-- The steps of ingress after FRAMES_RECEIVED (the table of R30). -/
def State.ingress (s : State) (p : Port) (bs : List Byte) : State :=
  if !crcOk bs then s.modPort p PortState.countCheckError
  else if frameMalformed bs then s.modPort p PortState.countMalformed
  else if 0xFF0 ≤ tagField bs then s.modPort p fun x => x.dispatch bs
  else s.streamFrame p bs

/-- DOWNSTREAM_FRAME (R30). While a part reset is in flight the frame is discarded uncounted (R169). -/
def execDownstreamFrame (p : Port) (bs : List Byte) (s : State) : Host.Outcome State Fault Refusal :=
  .next (if s.resetInFlight then s else (s.modPort p PortState.countReceived).ingress p bs)

end Sys2Proof.Machine
end

