-- ==== Sys2Proof/Machine/Executor.lean ====
section
/-! DEFINITION. The management executor (Chapter 9): the requests it knows, the arbiter's choice, and
the one shared operation by which a request is taken, judged, answered and echoed. -/

namespace Sys2Proof.Machine

/-- The requests of section 9.6. -/
inductive ReqKind where
  | identify
  | keepalive
  | readStatus
  | writeMapEntry
  | readMapEntry
  | clearMapEntry
  | writePortPolicy
  | readPortPolicy
  | writeProfile
  | readProfile
  | writeLimitSet
  | readLimitSet
  | writeGroupConfig
  | readGroupConfig
  | setRate
  | genConfig
  | arm
  | disarm
  | start
  | stop
  | abort
  | setLevel
  | genStart
  | readGroupStatus
  | readFaults
  | clearFaults
  | setAlertMask
  | setWatchdog
  | forceWatchdog
  | readPortStats
  | readGroupStats
  | readChannelStats
  | readServoStats
  | setClassAction
  | readClassActions
  | resetPart
  deriving DecidableEq, Repr

/-- The request an opcode of a class names, if the class defines it (R159, R176). -/
def requestOf (c : ReqClass) (opcode : Nat) : Option ReqKind :=
  match c, opcode with
  | .supervision, 1 => some .identify
  | .supervision, 2 => some .keepalive
  | .supervision, 3 => some .readStatus
  | .map, 1 => some .writeMapEntry
  | .map, 2 => some .readMapEntry
  | .map, 3 => some .clearMapEntry
  | .map, 4 => some .writePortPolicy
  | .map, 5 => some .readPortPolicy
  | .setup, 1 => some .writeProfile
  | .setup, 2 => some .readProfile
  | .setup, 3 => some .writeLimitSet
  | .setup, 4 => some .readLimitSet
  | .setup, 5 => some .writeGroupConfig
  | .setup, 6 => some .readGroupConfig
  | .setup, 7 => some .setRate
  | .setup, 8 => some .genConfig
  | .run, 1 => some .arm
  | .run, 2 => some .disarm
  | .run, 3 => some .start
  | .run, 4 => some .stop
  | .run, 5 => some .abort
  | .run, 6 => some .setLevel
  | .run, 7 => some .genStart
  | .run, 8 => some .readGroupStatus
  | .fault, 1 => some .readFaults
  | .fault, 2 => some .clearFaults
  | .fault, 3 => some .setAlertMask
  | .fault, 4 => some .setWatchdog
  | .fault, 5 => some .forceWatchdog
  | .stats, 1 => some .readPortStats
  | .stats, 2 => some .readGroupStats
  | .stats, 3 => some .readChannelStats
  | .stats, 4 => some .readServoStats
  | .device, 1 => some .setClassAction
  | .device, 2 => some .readClassActions
  | .device, 3 => some .resetPart
  | _, _ => none

/-- The operand length a request needs (R176). -/
def ReqKind.length : ReqKind → Nat
  | .identify => 0
  | .keepalive => 0
  | .readStatus => 0
  | .writeMapEntry => 7
  | .readMapEntry => 1
  | .clearMapEntry => 1
  | .writePortPolicy => 4
  | .readPortPolicy => 1
  | .writeProfile => 16
  | .readProfile => 1
  | .writeLimitSet => 18
  | .readLimitSet => 1
  | .writeGroupConfig => 33
  | .readGroupConfig => 1
  | .setRate => 2
  | .genConfig => 12
  | .arm => 2
  | .disarm => 1
  | .start => 1
  | .stop => 1
  | .abort => 1
  | .setLevel => 3
  | .genStart => 1
  | .readGroupStatus => 1
  | .readFaults => 1
  | .clearFaults => 1
  | .setAlertMask => 2
  | .setWatchdog => 2
  | .forceWatchdog => 0
  | .readPortStats => 2
  | .readGroupStats => 2
  | .readChannelStats => 2
  | .readServoStats => 1
  | .setClassAction => 4
  | .readClassActions => 0
  | .resetPart => 1

/-- The request that a queued request is. -/
def Request.kind (q : Request) : Option ReqKind := requestOf q.cls q.opcode.toNat

/-- Whether a port is ready (R163). -/
def State.ready (s : State) (p : Port) : Bool :=
  match (s.port p).requests with
  | [] => false
  | q :: _ =>
    decide ((s.port p).responses.length < Config.portQueueCapacity)
      && (decide (q.kind ≠ some .resetPart) || (s.port (otherPort p)).responses.isEmpty)

/-- The port the arbiter serves next, if it serves any (R163, R169). -/
def State.nextPort (s : State) : Option Port :=
  if s.resetInFlight then none
  else if s.ready s.preferred then some s.preferred
  else if s.ready (otherPort s.preferred) then some (otherPort s.preferred)
  else none

/-- The request the executor takes next, with its port. -/
def State.nextRequest (s : State) : Option (Port × Request) :=
  match s.nextPort with
  | none => none
  | some p => (s.port p).requests.head?.map fun q => (p, q)

/-- How a request is judged (R158): refused with a status and no effect, or taken, with its payload
and the state its effect leaves; `adjusted` when a number was replaced. -/
inductive Verdict where
  | refuse (status : Status)
  | take (adjusted : Bool) (payload : List Byte) (s : State)
  deriving DecidableEq, Repr

/-- The status a verdict answers. -/
def Verdict.status : Verdict → Status
  | .refuse st => st
  | .take adjusted _ _ => if adjusted then .adjusted else .ok

/-- The payload a verdict answers: empty for a refused request (R157). -/
def Verdict.payload : Verdict → List Byte
  | .refuse _ => []
  | .take _ payload _ => payload

/-- The state a verdict leaves: a refused request changes nothing in any block (R158). -/
def Verdict.effect : Verdict → State → State
  | .refuse _, s => s
  | .take _ _ s', _ => s'

/-- The head leaves its queue, and the preferred port becomes the port not taken from (R162, R163). -/
def State.dequeue (s : State) (p : Port) : State :=
  { s.modPort p (fun x => { x with requests := x.requests.tail }) with preferred := otherPort p }

/-- The landing a RESET_PART's operand asks for (R168). -/
def resetKindOf : Nat → Option ResetKind
  | 0 => some .reload
  | 1 => some .resample
  | _ => none

/-- What a response's completion lands: the reset of a taken RESET_PART, nothing for any other (R168, R170). -/
def landingOf (q : Request) (v : Verdict) : Option ResetKind :=
  match v with
  | .refuse _ => none
  | .take _ _ _ => if q.kind = some .resetPart then resetKindOf (natAt8 q.operands 0) else none

/-- The response at the tail of the arrival port's response queue (R164, step 3). -/
def State.respond (s : State) (p : Port) (q : Request) (v : Verdict) : State :=
  s.modPort p fun x =>
    x.pushResponse
      { frame := responseFrame s.straps q v.status v.payload, landing := landingOf q v }

/-- The echo, for a recorded action of EXECUTE_ECHO, on the other port; RESET_PART is never echoed
(R164, step 4; R168). -/
def State.echo (s : State) (p : Port) (q : Request) (v : Verdict) : State :=
  if q.action = .executeEcho ∧ q.kind ≠ some .resetPart then
    s.modPort (otherPort p) fun x => x.pushEcho (echoFrame s.straps p q v.status)
  else s

/-- The operand length judged before all else of a known request (R158, R159). -/
def judgeLength (k : ReqKind) (q : Request) (v : Verdict) : Verdict :=
  if q.operands.length = k.length then v else .refuse .badLength

/-- A taken request carried out as one event (R164), given how it is judged in the state its queue's
head has left. -/
def State.carryOut (s : State) (p : Port) (q : Request) (v : Verdict) : State :=
  (((v.effect (s.dequeue p)).respond p q v).echo p q v)

/-- The executor's take of a request of a kind (R163, R164). Where the request it would take next is of
another kind, or it would take none, no such take happens (notes/assumptions/1.md). -/
def takeRequest (k : ReqKind) (judge : Port → Request → State → Verdict) (s : State) :
    Host.Outcome State Fault Refusal :=
  .next (match s.nextRequest with
    | none => s
    | some (p, q) =>
      if q.kind = some k then s.carryOut p q (judgeLength k q (judge p q (s.dequeue p))) else s)

/-- UNDEFINED_OPCODE_REQUEST (R159): an opcode its class does not define is refused BAD_OPCODE. -/
def execUndefinedOpcodeRequest (s : State) : Host.Outcome State Fault Refusal :=
  .next (match s.nextRequest with
    | none => s
    | some (p, q) => if q.kind = none then s.carryOut p q (.refuse .badOpcode) else s)

end Sys2Proof.Machine
end

