-- ==== Sys2Proof/Machine/RequestsFault.lean ====
section
/-! DEFINITION. The FAULT class requests (R134, R135, R152 to R156, R174, R175). -/

namespace Sys2Proof.Machine

/-! ## READ_FAULTS -/

/-- Whether READ_FAULTS meets the one value the spec does not state: the observed value of a first-trip
record that holds none. -/
def Group.observedUnstated (g : Group) : Bool :=
  match g.firstTrip with
  | some f => f.observed.isNone
  | none => false

/-- The first-trip record in READ_FAULTS (R174): its present byte and the eight bytes after it, all 0
when it is absent. `free` stands for the observed value where the record holds none. -/
def firstTripPayload (free : Du) : Option FirstTrip → List Byte
  | none => [0, 0, 0, 0, 0, 0, 0, 0, 0]
  | some f =>
    out8 1 ++ out8 f.kind.code
      ++ out8 (match f.lane with
        | some l => l.val
        | none => 255)
      ++ outWord f.outSeq ++ outBool f.observed.isSome ++ outWord (f.observed.getD free)
      ++ out8 (firstModeCode f.mode)

/-- A lane's condition flags as a byte (R174). -/
def Channel.condByte (c : Channel) : Nat :=
  (if c.position.cond then 1 else 0) + (if c.force.cond then 2 else 0) + (if c.error.cond then 4 else 0)

/-- The payload of READ_FAULTS (R174). -/
def faultsPayload (free : Du) (g : Group) : List Byte :=
  outWord g.actionSet ++ outWord g.reportSet ++ firstTripPayload free g.firstTrip
    ++ out8 (actionCode g.action) ++ out8 (targetCode g.target)
    ++ (lanes.flatMap fun l => out8 (g.chans.get l).condByte)

def judgeReadFaults (_ : Port) (q : Request) (s : State) : Verdict :=
  match indexOf 4 (natAt8 q.operands 0) with
  | none => .refuse .badIndex
  | some g =>
    .take false (faultsPayload (Config.unstatedObserved s.freeCount) (s.group g))
      (if (s.group g).observedUnstated then { s with freeCount := s.freeCount + 1 } else s)

/-- READ_FAULTS (R174). -/
def execReadFaults (s : State) : Host.Outcome State Fault Refusal := takeRequest .readFaults judgeReadFaults s

/-! ## CLEAR_FAULTS -/

/-- The groups CLEAR_FAULTS names: one, or all four for 0xFF (R152, R176). `none` is a refusal. -/
def namedGroups (operand : Nat) : Option (List GroupIx) :=
  if operand = 255 then some groupList
  else (indexOf 4 operand).map fun g => [g]

/-- CLEAR_FAULTS on one group: the removal, then the release (R152, R153). -/
def Group.clearFaults (g : Group) (wdExpired interlockOpen : Bool) : Group :=
  (g.removeAbsent wdExpired interlockOpen).release

/-- CLEAR_FAULTS on the named groups, with the lines it moves (R152, R153, R155). -/
def State.clearFaults (s : State) (gs : List GroupIx) : State :=
  { s with
    groups := s.groups.mapIx fun i (g : Group) =>
      if i ∈ gs then g.clearFaults s.wdExpired s.interlockOpen else g }.driveLines

/-- The payload of CLEAR_FAULTS: every group as it stands at the end (R175). -/
def clearFaultsPayload (s : State) : List Byte :=
  groupList.flatMap fun g =>
    out8 (s.group g).state.code ++ outWord (s.group g).actionSet ++ outWord (s.group g).reportSet

def judgeClearFaults (_ : Port) (q : Request) (s : State) : Verdict :=
  match namedGroups (natAt8 q.operands 0) with
  | none => .refuse .badIndex
  | some gs => .take false (clearFaultsPayload (s.clearFaults gs)) (s.clearFaults gs)

/-- CLEAR_FAULTS (R152, R153). -/
def execClearFaults (s : State) : Host.Outcome State Fault Refusal :=
  takeRequest .clearFaults judgeClearFaults s

/-! ## Alert mask and watchdog -/

/-- R156, R175. -/
def judgeSetAlertMask (_ : Port) (q : Request) (s : State) : Verdict :=
  if kindSetOk (wordAt q.operands 0) then
    .take false [] { s with alertMask := wordAt q.operands 0 }.driveLines
  else .refuse .badValue

/-- SET_ALERT_MASK (R156). -/
def execSetAlertMask (s : State) : Host.Outcome State Fault Refusal :=
  takeRequest .setAlertMask judgeSetAlertMask s

/-- R134, with P at offset 0 and the unit at 1. -/
def judgeSetWatchdog (_ : Port) (q : Request) (s : State) : Verdict :=
  match tickUnitOf (natAt8 q.operands 1) with
  | none => .refuse .badValue
  | some u =>
    let p := natAt8 q.operands 0
    .take false []
      { s with
        watchdog :=
          { period := p, unit := u, remaining := p, state := if p = 0 then .disabled else .running } }

/-- SET_WATCHDOG (R134). -/
def execSetWatchdog (s : State) : Host.Outcome State Fault Refusal :=
  takeRequest .setWatchdog judgeSetWatchdog s

/-- R135. -/
def judgeForceWatchdog (_ : Port) (_ : Request) (s : State) : Verdict :=
  if s.watchdog.state = .running then .take false [] s.expireWatchdog else .refuse .wrongState

/-- FORCE_WATCHDOG (R135). -/
def execForceWatchdog (s : State) : Host.Outcome State Fault Refusal :=
  takeRequest .forceWatchdog judgeForceWatchdog s

end Sys2Proof.Machine
end

