-- ==== Sys2Proof/Machine/RequestsMap.lean ====
section
/-! DEFINITION. The SUPERVISION and MAP class requests (sections 7.6, 2.1, 2.2, 9.5, 9.6). Operand
offsets follow section 9.6; the operand length is judged by `takeRequest`. -/

namespace Sys2Proof.Machine

/-! ## SUPERVISION class, 0xFF0 -/

/-- The payload of IDENTIFY (R172). -/
def identifyPayload (s : State) : List Byte :=
  out16 0x0D24 ++ out8 1 ++ out8 s.straps.unitId.toNat ++ outBool s.straps.defmap ++ outBool s.straps.wddef

def judgeIdentify (_ : Port) (_ : Request) (s : State) : Verdict := .take false (identifyPayload s) s

/-- IDENTIFY (R172). -/
def execIdentify (s : State) : Host.Outcome State Fault Refusal := takeRequest .identify judgeIdentify s

def judgeKeepalive (_ : Port) (_ : Request) (s : State) : Verdict :=
  .take false [] { s with watchdog := s.watchdog.reload }

/-- KEEPALIVE (R133). -/
def execKeepalive (s : State) : Host.Outcome State Fault Refusal := takeRequest .keepalive judgeKeepalive s

/-- The payload of READ_STATUS (R172). -/
def statusPayload (s : State) : List Byte :=
  out16 s.rate.hertz ++ outBool s.interlockOpen ++ out8 s.watchdog.state.code
    ++ out8 s.watchdog.remaining ++ out8 s.watchdog.period ++ out8 (unitCode s.watchdog.unit)
    ++ (groupList.flatMap fun g => out8 (s.group g).state.code)
    ++ outBool s.faultLine ++ outBool s.alertLine

def judgeReadStatus (_ : Port) (_ : Request) (s : State) : Verdict := .take false (statusPayload s) s

/-- READ_STATUS (R172). -/
def execReadStatus (s : State) : Host.Outcome State Fault Refusal := takeRequest .readStatus judgeReadStatus s

/-! ## MAP class, 0xFF1 -/

/-- The group bound to a map entry, if any (R2, R37). -/
def State.boundGroup (s : State) (i : MapIx) : Option GroupIx :=
  groupList.find? fun g => decide ((s.group g).bound = some i)

/-- Whether another valid entry has the same tag and shares a port with a mask (R40, step 3). -/
def State.mapConflict (s : State) (i : MapIx) (tag : Nat) (portMask : BitVec 8) : Bool :=
  mapIndices.any fun j =>
    decide (j ≠ i) && (s.map.get j).valid && decide ((s.map.get j).tag.toNat = tag)
      && decide ((s.map.get j).portMask.zeroExtend 8 &&& portMask ≠ 0)

/-- The value checks of WRITE_MAP_ENTRY (R40, step 4), and the entry they let through. -/
def mapEntryOf (g : GroupIx) (tag : Nat) (role : Nat) (laneMask portMask : BitVec 8) : Option MapEntry :=
  match roleOf role with
  | none => none
  | some r =>
    if streamTagOk tag && laneMaskOk laneMask && decide (laneMask ≠ 0) && portMaskOk portMask
        && decide (portMask ≠ 0) then
      some { valid := true, tag := BitVec.ofNat 12 tag, role := r, group := g,
             laneMask := laneMask.truncate 6, portMask := portMask.truncate 2, lastTrim := none }
    else none

/-- R40, with index at offset 0, tag at 1, role at 3, group at 4, lane mask at 5 and port mask at 6. -/
def judgeWriteMapEntry (_ : Port) (q : Request) (s : State) : Verdict :=
  match indexOf 32 (natAt8 q.operands 0), indexOf 4 (natAt8 q.operands 4) with
  | some i, some g =>
    if (s.boundGroup i).isSome then .refuse .inUse
    else if s.mapConflict i (natAt16 q.operands 1) (byteAt q.operands 6) then .refuse .conflict
    else
      match mapEntryOf g (natAt16 q.operands 1) (natAt8 q.operands 3) (byteAt q.operands 5)
          (byteAt q.operands 6) with
      | none => .refuse .badValue
      | some e => .take false [] { s with map := s.map.set i e }
  | _, _ => .refuse .badIndex

/-- WRITE_MAP_ENTRY (R40). -/
def execWriteMapEntry (s : State) : Host.Outcome State Fault Refusal :=
  takeRequest .writeMapEntry judgeWriteMapEntry s

/-- The payload of READ_MAP_ENTRY (R171). -/
def mapEntryPayload (s : State) (i : MapIx) : List Byte :=
  let e := s.map.get i
  out8 i.val ++ outBool e.valid ++ outWord (e.tag.zeroExtend 16) ++ out8 e.role.code ++ out8 e.group.val
    ++ out8 e.laneMask.toNat ++ out8 e.portMask.toNat ++ outOptWord e.lastTrim
    ++ out8 (match s.boundGroup i with
      | some g => g.val
      | none => 255)

def judgeReadMapEntry (_ : Port) (q : Request) (s : State) : Verdict :=
  match indexOf 32 (natAt8 q.operands 0) with
  | none => .refuse .badIndex
  | some i => .take false (mapEntryPayload s i) s

/-- READ_MAP_ENTRY (R171). -/
def execReadMapEntry (s : State) : Host.Outcome State Fault Refusal :=
  takeRequest .readMapEntry judgeReadMapEntry s

/-- R41. -/
def judgeClearMapEntry (_ : Port) (q : Request) (s : State) : Verdict :=
  match indexOf 32 (natAt8 q.operands 0) with
  | none => .refuse .badIndex
  | some i =>
    if (s.boundGroup i).isSome then .refuse .inUse
    else .take false [] { s with map := s.map.set i clearedEntry }

/-- CLEAR_MAP_ENTRY (R41). -/
def execClearMapEntry (s : State) : Host.Outcome State Fault Refusal :=
  takeRequest .clearMapEntry judgeClearMapEntry s

/-- R36, with port at offset 0, policy at 1 and default tag at 2. -/
def judgeWritePortPolicy (_ : Port) (q : Request) (s : State) : Verdict :=
  match portOf (natAt8 q.operands 0) with
  | none => .refuse .badIndex
  | some p =>
    match admissionOf (natAt8 q.operands 1) with
    | none => .refuse .badValue
    | some a =>
      if natAt16 q.operands 2 = 0 ∨ streamTagOk (natAt16 q.operands 2) = true then
        .take false [] (s.modPort p fun x =>
          { x with policy := { policy := a, defaultTag := BitVec.ofNat 12 (natAt16 q.operands 2) } })
      else .refuse .badValue

/-- WRITE_PORT_POLICY (R36). -/
def execWritePortPolicy (s : State) : Host.Outcome State Fault Refusal :=
  takeRequest .writePortPolicy judgeWritePortPolicy s

/-- The payload of READ_PORT_POLICY (R171). -/
def policyPayload (p : Port) (pol : PortPolicy) : List Byte :=
  out8 (portCode p) ++ out8 pol.policy.code ++ outWord (pol.defaultTag.zeroExtend 16)

def judgeReadPortPolicy (_ : Port) (q : Request) (s : State) : Verdict :=
  match portOf (natAt8 q.operands 0) with
  | none => .refuse .badIndex
  | some p => .take false (policyPayload p (s.port p).policy) s

/-- READ_PORT_POLICY (R171). -/
def execReadPortPolicy (s : State) : Host.Outcome State Fault Refusal :=
  takeRequest .readPortPolicy judgeReadPortPolicy s

end Sys2Proof.Machine
end

