-- ==== Sys2Proof/Machine/RequestsRun.lean ====
section
/-! DEFINITION. The RUN class requests (section 1.6, R97 to R99, R173). -/

namespace Sys2Proof.Machine

/-- A RUN request's group, its first operand (R176): refused BAD_INDEX outside 0 to 3. -/
def onGroup (q : Request) (f : GroupIx → Verdict) : Verdict :=
  match indexOf 4 (natAt8 q.operands 0) with
  | none => .refuse .badIndex
  | some g => f g

/-- A taken request's effect on its group, answered OK with an empty payload. -/
def State.takeOn (s : State) (g : GroupIx) (x : Group) : Verdict := .take false [] (s.setGroup g x)

/-- ARM's operand: 0xFF for none, else the index of a valid PRIMARY entry of the group (R20, step 1).
`none` is a refusal. -/
def State.armTarget (s : State) (g : GroupIx) (operand : Nat) : Option (Option MapIx) :=
  if operand = 255 then some none
  else
    match indexOf 32 operand with
    | none => none
    | some i =>
      let e := s.map.get i
      if e.valid ∧ e.role = .primary ∧ e.group = g then some (some i) else none

/-- A taken ARM on the group (R20, R85, R146). -/
def Group.arm (g : Group) (bound : Option MapIx) : Group :=
  { g with
    state := .armed
    bound := bound
    queue := []
    tallies := defaultTallies
    expected := none
    env := 0
    att := Config.fullScale
    retryCount := 0
    firstTrip := none
    source := .stream
    genDone := false
    sinceFb := 0
    streak := 0
    action := none
    target := none
    chans := g.chans.map fun c => { c with d := 0, persist := 0 } }

/-- R20. -/
def judgeArm (_ : Port) (q : Request) (s : State) : Verdict :=
  onGroup q fun g =>
    match s.armTarget g (natAt8 q.operands 1) with
    | none => .refuse .badIndex
    | some b =>
      if (s.group g).state ≠ .idle then .refuse .wrongState
      else if s.interlockOpen then .refuse .interlockOpen
      else s.takeOn g ((s.group g).arm b)

/-- ARM (R20). -/
def execArm (s : State) : Host.Outcome State Fault Refusal := takeRequest .arm judgeArm s

/-- R21. -/
def judgeDisarm (_ : Port) (q : Request) (s : State) : Verdict :=
  onGroup q fun g =>
    if (s.group g).state = .armed then s.takeOn g (s.group g).enterIdle else .refuse .wrongState

/-- DISARM (R21). -/
def execDisarm (s : State) : Host.Outcome State Fault Refusal := takeRequest .disarm judgeDisarm s

/-- R22. -/
def judgeStart (_ : Port) (q : Request) (s : State) : Verdict :=
  onGroup q fun g =>
    let x := s.group g
    if x.state ≠ .armed ∨ x.bound = none then .refuse .wrongState
    else if s.interlockOpen then .refuse .interlockOpen
    else if x.queue.length < x.cfg.prefill then .refuse .notReady
    else s.takeOn g { x.enterFadeIn with source := .stream }

/-- START (R22). -/
def execStart (s : State) : Host.Outcome State Fault Refusal := takeRequest .start judgeStart s

/-- A taken STOP on the group (R24, R98): in FADE_IN and RUN the fade-out begins and a generator's
pattern is ended; in FADE_OUT there is no effect. -/
def Group.stopRun (g : Group) : Group :=
  if g.state.running then
    { g with
      state := .fadeOut
      genRun := { g.genRun with ended := if g.source = .generator then true else g.genRun.ended } }
  else g

/-- R24. -/
def judgeStop (_ : Port) (q : Request) (s : State) : Verdict :=
  onGroup q fun g =>
    if (s.group g).state.live then s.takeOn g (s.group g).stopRun else .refuse .wrongState

/-- STOP (R24, R98). -/
def execStop (s : State) : Host.Outcome State Fault Refusal := takeRequest .stop judgeStop s

/-- ABORT on the group, by its state (the table of R25); `none` is a refusal. -/
def Group.abortRun (g : Group) : Option Group :=
  match g.state with
  | .fadeIn | .run | .fadeOut =>
    some { g.enterParking with action := some .park, target := some .idle }
  | .armed => some g.enterIdle
  | .retryWait => some { g.enterFaulted with target := some .faulted }
  | .parking => some g
  | .idle | .held | .faulted => none

/-- R25. -/
def judgeAbort (_ : Port) (q : Request) (s : State) : Verdict :=
  onGroup q fun g =>
    match (s.group g).abortRun with
    | some x => s.takeOn g x
    | none => .refuse .wrongState

/-- ABORT (R25). -/
def execAbort (s : State) : Host.Outcome State Fault Refusal := takeRequest .abort judgeAbort s

/-- R26. -/
def judgeSetLevel (_ : Port) (q : Request) (s : State) : Verdict :=
  onGroup q fun g =>
    let v := natAt16 q.operands 1
    .take (decide (Config.fullScale < v)) []
      (s.modGroup g fun x => { x with level := min v Config.fullScale })

/-- SET_LEVEL (R26). -/
def execSetLevel (s : State) : Host.Outcome State Fault Refusal := takeRequest .setLevel judgeSetLevel s

/-- A taken GEN_START on the group (R23, R97). -/
def Group.startGenerator (g : Group) : Group :=
  { g.flush.enterFadeIn with
    source := .generator
    genDone := false
    genRun := genRestart g.gen }

/-- R23. -/
def judgeGenStart (_ : Port) (q : Request) (s : State) : Verdict :=
  onGroup q fun g =>
    if (s.group g).state ≠ .armed then .refuse .wrongState
    else if s.interlockOpen then .refuse .interlockOpen
    else s.takeOn g (s.group g).startGenerator

/-- GEN_START (R23, R97). -/
def execGenStart (s : State) : Host.Outcome State Fault Refusal := takeRequest .genStart judgeGenStart s

/-- The payload of READ_GROUP_STATUS (R173). -/
def groupStatusPayload (g : Group) : List Byte :=
  out8 g.state.code ++ out8 g.source.code
    ++ out8 (match g.bound with
      | some i => i.val
      | none => 255)
    ++ outOptWord g.expected ++ outWord g.outSeq ++ out16 g.env ++ out16 g.level ++ out16 g.att
    ++ out8 g.queue.length ++ out8 g.retryCount ++ out16 g.retryTimer ++ out8 g.resume.code
    ++ out16 g.streak ++ out16 g.sinceFb ++ outOptWord g.lastEcho ++ outBool g.genDone
    ++ (lanes.flatMap fun l => outWord (g.chans.get l).yPrev)

/-- R173, R99: the done flag is reported and cleared in one event. -/
def judgeReadGroupStatus (_ : Port) (q : Request) (s : State) : Verdict :=
  onGroup q fun g =>
    .take false (groupStatusPayload (s.group g)) (s.modGroup g fun x => { x with genDone := false })

/-- READ_GROUP_STATUS (R173, R99). -/
def execReadGroupStatus (s : State) : Host.Outcome State Fault Refusal :=
  takeRequest .readGroupStatus judgeReadGroupStatus s

end Sys2Proof.Machine
end

