-- ==== Sys2Proof/Machine/RequestsSetup.lean ====
section
/-! DEFINITION. The SETUP class requests (R7, R29, R71, R92, R118, R171). -/

namespace Sys2Proof.Machine

/-! ## Channel profiles -/

/-- R71, with channel at offset 0, G at 1, O at 3, polarity at 5, S at 6, Lmin at 8, Lmax at 10, Pk at
12, limit set at 14 and W at 15. -/
def judgeWriteProfile (_ : Port) (q : Request) (s : State) : Verdict :=
  match channelOf (natAt8 q.operands 0), indexOf 16 (natAt8 q.operands 14) with
  | some (g, l), some ls =>
    if (s.group g).state ≠ .idle then .refuse .wrongState
    else
      match polarityOf (natAt8 q.operands 5) with
      | none => .refuse .badValue
      | some pol =>
        let lmin := wordAt q.operands 8
        let lmax := wordAt q.operands 10
        if lmax.toInt ≤ lmin.toInt then .refuse .badValue
        else
          let pk := wordAt q.operands 12
          let stored := BitVec.ofInt 16 (clampInt lmin.toInt lmax.toInt pk.toInt)
          let prof : Profile :=
            { gain := natAt16 q.operands 1, offset := wordAt q.operands 3, polarity := pol,
              slew := natAt16 q.operands 6, lmin := lmin, lmax := lmax, park := stored,
              limitSet := ls, weight := natAt8 q.operands 15 }
          .take (stored != pk) []
            (s.modGroup g fun x => x.modChan l fun c => { c with profile := prof, yPrev := stored })
  | _, _ => .refuse .badIndex

/-- WRITE_PROFILE (R71). -/
def execWriteProfile (s : State) : Host.Outcome State Fault Refusal :=
  takeRequest .writeProfile judgeWriteProfile s

/-- The payload of READ_PROFILE: the operand sequence of a write (R171). -/
def profilePayload (channel : Nat) (p : Profile) : List Byte :=
  out8 channel ++ out16 p.gain ++ outWord p.offset ++ out8 p.polarity.code ++ out16 p.slew
    ++ outWord p.lmin ++ outWord p.lmax ++ outWord p.park ++ out8 p.limitSet.val ++ out8 p.weight

def judgeReadProfile (_ : Port) (q : Request) (s : State) : Verdict :=
  match channelOf (natAt8 q.operands 0) with
  | none => .refuse .badIndex
  | some (g, l) => .take false (profilePayload (channelNumber g l) ((s.group g).chans.get l).profile) s

/-- READ_PROFILE (R171). -/
def execReadProfile (s : State) : Host.Outcome State Fault Refusal :=
  takeRequest .readProfile judgeReadProfile s

/-! ## Limit sets -/

/-- A limit set monitor read from its deglitch count, mode and action, as stored (R118). -/
def limitMonAt (bs : List Byte) (i : Nat) : Option LimitMon :=
  match treatmentAt bs (i + 1) with
  | none => none
  | some t => some { deglitch := max 1 (natAt8 bs i), mode := t.mode, action := t.action }

/-- Whether storing a limit set monitor altered it (R118, step 3). -/
def limitMonAltered (bs : List Byte) (i : Nat) : Bool :=
  decide (natAt8 bs i = 0) || (decide (natAt8 bs (i + 1) = 1) && decide (natAt8 bs (i + 2) = 1))

/-- The limit set that WRITE_LIMIT_SET stores, unless a code or the PosLo, PosHi pair is refused (R118,
step 2). PosLo stands at offset 1, PosHi at 3, POSITION's N at 5; ForceMax at 8, N at 10; ErrMax at
13, N at 15. -/
def limitSetOf (bs : List Byte) : Option LimitSet :=
  match limitMonAt bs 5, limitMonAt bs 10, limitMonAt bs 15 with
  | some p, some f, some e =>
    if (wordAt bs 3).toInt < (wordAt bs 1).toInt then none
    else
      some { posLo := wordAt bs 1, posHi := wordAt bs 3, forceMax := nonNegative (wordAt bs 8),
             errMax := nonNegative (wordAt bs 13), position := p, force := f, error := e }
  | _, _, _ => none

/-- Whether storing altered any field (R118, step 3). -/
def limitSetAltered (bs : List Byte) : Bool :=
  limitMonAltered bs 5 || limitMonAltered bs 10 || limitMonAltered bs 15
    || decide ((wordAt bs 8).toInt < 0) || decide ((wordAt bs 13).toInt < 0)

/-- The monitor records of every channel that names a set, cleared (R118). -/
def Group.clearNaming (g : Group) (i : SetIx) : Group :=
  { g with chans := g.chans.map fun c => if c.profile.limitSet = i then c.clearMonitors else c }

/-- R118. -/
def judgeWriteLimitSet (_ : Port) (q : Request) (s : State) : Verdict :=
  match indexOf 16 (natAt8 q.operands 0) with
  | none => .refuse .badIndex
  | some i =>
    match limitSetOf q.operands with
    | none => .refuse .badValue
    | some ls =>
      .take (limitSetAltered q.operands) []
        { s with
          limitSets := s.limitSets.set i ls
          groups := s.groups.map fun (g : Group) => g.clearNaming i }

/-- WRITE_LIMIT_SET (R118). -/
def execWriteLimitSet (s : State) : Host.Outcome State Fault Refusal :=
  takeRequest .writeLimitSet judgeWriteLimitSet s

/-- A limit set monitor as a write carries it. -/
def limitMonPayload (m : LimitMon) : List Byte := out8 m.deglitch ++ out8 m.mode.code ++ out8 m.action.code

/-- The payload of READ_LIMIT_SET (R171). -/
def limitSetPayload (i : SetIx) (ls : LimitSet) : List Byte :=
  out8 i.val ++ outWord ls.posLo ++ outWord ls.posHi ++ limitMonPayload ls.position
    ++ out16 ls.forceMax ++ limitMonPayload ls.force ++ out16 ls.errMax ++ limitMonPayload ls.error

def judgeReadLimitSet (_ : Port) (q : Request) (s : State) : Verdict :=
  match indexOf 16 (natAt8 q.operands 0) with
  | none => .refuse .badIndex
  | some i => .take false (limitSetPayload i (s.limitSets.get i)) s

/-- READ_LIMIT_SET (R171). -/
def execReadLimitSet (s : State) : Host.Outcome State Fault Refusal :=
  takeRequest .readLimitSet judgeReadLimitSet s

/-! ## Group configuration -/

/-- The record that WRITE_GROUP_CONFIG stores, unless a code is refused (R29, steps 2 to 4). FS stands
at offset 1, PS at 3, the five one-byte limits at 5 to 9, retry time at 10, retry limit at 12, the
five treatments at 13 to 22, Fmax at 23, AS at 27, Amin at 29, K at 31 and the telemetry port at 32. -/
def groupConfigOf (bs : List Byte) : Option GroupConfig :=
  match treatmentAt bs 13, treatmentAt bs 15, treatmentAt bs 17, treatmentAt bs 19, treatmentAt bs 21,
      portOf (natAt8 bs 32) with
  | some st, some sb, some fl, some cp, some wd, some tp =>
    some
      { fadeStep := within 1 4096 (natAt16 bs 1)
        parkStep := within 1 4096 (natAt16 bs 3)
        prefill := within 0 64 (natAt8 bs 5)
        starveLimit := within 1 255 (natAt8 bs 6)
        gapFill := within 0 8 (natAt8 bs 7)
        fbLimit := within 1 255 (natAt8 bs 8)
        clampLimit := natAt8 bs 9
        retryTime := within 1 65535 (natAt16 bs 10)
        retryLimit := within 0 15 (natAt8 bs 12)
        starve := st
        seqBreak := sb
        fbLoss := fl
        clampPersist := cp
        watchdog := wd
        flowLimit := within 0 2147483647 (natAt32 bs 23)
        attStep := within 1 4096 (natAt16 bs 27)
        attFloor := within 0 4096 (natAt16 bs 29)
        telemK := natAt8 bs 31
        telemPort := tp }
  | _, _, _, _, _, _ => none

/-- A group configuration as a write carries it (R171, R176). -/
def configPayload (g : GroupIx) (c : GroupConfig) : List Byte :=
  let treatment := fun (t : Treatment) => out8 t.mode.code ++ out8 t.action.code
  out8 g.val ++ out16 c.fadeStep ++ out16 c.parkStep ++ out8 c.prefill ++ out8 c.starveLimit
    ++ out8 c.gapFill ++ out8 c.fbLimit ++ out8 c.clampLimit ++ out16 c.retryTime ++ out8 c.retryLimit
    ++ treatment c.starve ++ treatment c.seqBreak ++ treatment c.fbLoss ++ treatment c.clampPersist
    ++ treatment c.watchdog ++ out32 c.flowLimit ++ out16 c.attStep ++ out16 c.attFloor
    ++ out8 c.telemK ++ out8 (portCode c.telemPort)

/-- A taken WRITE_GROUP_CONFIG on the group (R29). -/
def Group.configure (g : Group) (c : GroupConfig) : Group :=
  { g with cfg := c, att := Config.fullScale, telemCount := 0 }

/-- R29. Steps 3 and 4 altered a field exactly when the stored record's operand sequence differs from
the operands. -/
def judgeWriteGroupConfig (_ : Port) (q : Request) (s : State) : Verdict :=
  match indexOf 4 (natAt8 q.operands 0) with
  | none => .refuse .badIndex
  | some g =>
    if (s.group g).state ≠ .idle then .refuse .wrongState
    else
      match groupConfigOf q.operands with
      | none => .refuse .badValue
      | some c => .take (configPayload g c != q.operands) [] (s.modGroup g fun x => x.configure c)

/-- WRITE_GROUP_CONFIG (R29). -/
def execWriteGroupConfig (s : State) : Host.Outcome State Fault Refusal :=
  takeRequest .writeGroupConfig judgeWriteGroupConfig s

def judgeReadGroupConfig (_ : Port) (q : Request) (s : State) : Verdict :=
  match indexOf 4 (natAt8 q.operands 0) with
  | none => .refuse .badIndex
  | some g => .take false (configPayload g (s.group g).cfg) s

/-- READ_GROUP_CONFIG (R171). -/
def execReadGroupConfig (s : State) : Host.Outcome State Fault Refusal :=
  takeRequest .readGroupConfig judgeReadGroupConfig s

/-! ## Playout rate and generator -/

/-- Whether all four groups are IDLE (R7). -/
def State.allIdle (s : State) : Bool := groupList.all fun g => decide ((s.group g).state = .idle)

/-- R7. -/
def judgeSetRate (_ : Port) (q : Request) (s : State) : Verdict :=
  if s.allIdle then
    match rateOf (natAt16 q.operands 0) with
    | none => .refuse .badValue
    | some r => .take false [] { s with rate := r }
  else .refuse .wrongState

/-- SET_RATE (R7). -/
def execSetRate (s : State) : Host.Outcome State Fault Refusal := takeRequest .setRate judgeSetRate s

/-- The configuration that GEN_CONFIG stores, unless a code is refused (R92, steps 3 and 4), with
pattern at offset 1, level at 2, H at 4, seed at 6, count at 8 and channel mask at 11. -/
def genConfigOf (bs : List Byte) : Option GenConfig :=
  match patternOf (natAt8 bs 1) with
  | none => none
  | some p =>
    if laneMaskOk (byteAt bs 11) then
      some
        { pattern := p
          level := if wordAt bs 2 = 0x8000#16 then 0x8001#16 else wordAt bs 2
          period := within (if p = .ramp then 2 else 1) 4096 (natAt16 bs 4)
          seed := if wordAt bs 6 = 0 then Config.defaultSeed else wordAt bs 6
          count := if natAt24 bs 8 = 0 then none else some (natAt24 bs 8)
          mask := (byteAt bs 11).truncate 6 }
    else none

/-- A generator configuration as GEN_CONFIG carries it: count 0 for CONTINUOUS (R171). -/
def genPayload (g : GroupIx) (c : GenConfig) : List Byte :=
  out8 g.val ++ out8 c.pattern.code ++ outWord c.level ++ out16 c.period ++ outWord c.seed
    ++ out24 (c.count.getD 0) ++ out8 c.mask.toNat

/-- R92. Step 4 altered a field exactly when the stored configuration's operand sequence differs from
the operands. -/
def judgeGenConfig (_ : Port) (q : Request) (s : State) : Verdict :=
  match indexOf 4 (natAt8 q.operands 0) with
  | none => .refuse .badIndex
  | some g =>
    if (s.group g).state ≠ .idle ∧ (s.group g).state ≠ .armed then .refuse .wrongState
    else
      match genConfigOf q.operands with
      | none => .refuse .badValue
      | some c =>
        .take (genPayload g c != q.operands) (genPayload g c) (s.modGroup g fun x => { x with gen := c })

/-- GEN_CONFIG (R92). -/
def execGenConfig (s : State) : Host.Outcome State Fault Refusal := takeRequest .genConfig judgeGenConfig s

end Sys2Proof.Machine
end

