-- ==== Sys2Proof/Machine/RequestsStats.lean ====
section
/-! DEFINITION. The STATS and DEVICE class requests (R161, R168, R171, R178). -/

namespace Sys2Proof.Machine

/-! ## STATS class, 0xFF5 -/

/-- A STATS request's clear operand: 0 or 1, else refused BAD_VALUE (R178). -/
def clearOf : Nat → Option Bool
  | 0 => some false
  | 1 => some true
  | _ => none

/-- The 11 port counters (R178). -/
def PortCounters.payload (c : PortCounters) : List Byte :=
  out32 c.framesReceived ++ out32 c.checkErrors ++ out32 c.malformed ++ out32 c.admitRefused
    ++ out32 c.unknownTag ++ out32 c.unknownClass ++ out32 c.classDiscarded ++ out32 c.requestOverflow
    ++ out32 c.echoDropped ++ out32 c.telemetryReplaced ++ out32 c.excessSamples

def judgeReadPortStats (_ : Port) (q : Request) (s : State) : Verdict :=
  match portOf (natAt8 q.operands 0) with
  | none => .refuse .badIndex
  | some p =>
    match clearOf (natAt8 q.operands 1) with
    | none => .refuse .badValue
    | some clear =>
      .take false (s.port p).ctr.payload
        (if clear then s.modPort p fun x => { x with ctr := defaultPortCounters } else s)

/-- READ_PORT_STATS (R178). -/
def execReadPortStats (s : State) : Host.Outcome State Fault Refusal :=
  takeRequest .readPortStats judgeReadPortStats s

/-- The 12 group counters (R178). -/
def GroupCounters.payload (c : GroupCounters) : List Byte :=
  out32 c.playouts ++ out32 c.underruns ++ out32 c.overflowDrops ++ out32 c.staleDrops
    ++ out32 c.gapFrames ++ out32 c.fillerEntries ++ out32 c.seqBreaks ++ out32 c.unboundDrops
    ++ out32 c.refusedDrops ++ out32 c.feedbackAccepted ++ out32 c.feedbackStale ++ out32 c.trips

/-- The payload of READ_GROUP_STATS (R178). -/
def groupStatsPayload (g : Group) : List Byte :=
  g.ctr.payload ++ out32 g.tallies.enqueued ++ out32 g.tallies.played ++ out32 g.tallies.skipped
    ++ out32 g.tallies.flushed ++ out8 g.queue.length

def judgeReadGroupStats (_ : Port) (q : Request) (s : State) : Verdict :=
  match indexOf 4 (natAt8 q.operands 0) with
  | none => .refuse .badIndex
  | some g =>
    match clearOf (natAt8 q.operands 1) with
    | none => .refuse .badValue
    | some clear =>
      .take false (groupStatsPayload (s.group g))
        (if clear then s.modGroup g fun x => { x with ctr := defaultGroupCounters } else s)

/-- READ_GROUP_STATS (R178). -/
def execReadGroupStats (s : State) : Host.Outcome State Fault Refusal :=
  takeRequest .readGroupStats judgeReadGroupStats s

/-- The payload of READ_CHANNEL_STATS (R178). -/
def channelStatsPayload (c : Channel) : List Byte :=
  out32 c.slewClamps ++ out32 c.rangeClamps ++ outBool c.slewFlag ++ outBool c.rangeFlag ++ out16 c.persist

def judgeReadChannelStats (_ : Port) (q : Request) (s : State) : Verdict :=
  match channelOf (natAt8 q.operands 0) with
  | none => .refuse .badIndex
  | some (g, l) =>
    match clearOf (natAt8 q.operands 1) with
    | none => .refuse .badValue
    | some clear =>
      .take false (channelStatsPayload ((s.group g).chans.get l))
        (if clear then
          s.modGroup g fun x => x.modChan l fun c => { c with slewClamps := 0, rangeClamps := 0 }
        else s)

/-- READ_CHANNEL_STATS (R178). -/
def execReadChannelStats (s : State) : Host.Outcome State Fault Refusal :=
  takeRequest .readChannelStats judgeReadChannelStats s

/-- The payload of READ_SERVO_STATS (R178). -/
def ServoCounters.payload (c : ServoCounters) : List Byte :=
  out32 c.framesReceived ++ out32 c.checkErrors ++ out32 c.malformed

def judgeReadServoStats (_ : Port) (q : Request) (s : State) : Verdict :=
  match clearOf (natAt8 q.operands 0) with
  | none => .refuse .badValue
  | some clear =>
    .take false s.servo.payload (if clear then { s with servo := defaultServoCounters } else s)

/-- READ_SERVO_STATS (R178). -/
def execReadServoStats (s : State) : Host.Outcome State Fault Refusal :=
  takeRequest .readServoStats judgeReadServoStats s

/-! ## DEVICE class, 0xFF6 -/

/-- The code of DISCARD (R161). -/
def discardCode : Nat := 2

/-- The LOCKOUT checks of SET_CLASS_ACTION (R161): `arrival` is the port that carries the request. -/
def State.lockout (s : State) (arrival p : Port) (c : ReqClass) (action : Nat) : Bool :=
  (decide (c = .supervision) && decide (action ≠ 0))
    || (decide (c = .device) && decide (action = discardCode)
        && (decide (p = arrival) || decide ((s.port (otherPort p)).actionFor .device = .discard)))

/-- R161, with port at offset 0, class tag at 1 and action at 3. -/
def judgeSetClassAction (arrival : Port) (q : Request) (s : State) : Verdict :=
  match portOf (natAt8 q.operands 0), classOfTag (natAt16 q.operands 1) with
  | some p, some c =>
    if s.lockout arrival p c (natAt8 q.operands 3) then .refuse .lockout
    else
      match classActionOf (natAt8 q.operands 3) with
      | none => .refuse .badValue
      | some a => .take false [] (s.modPort p fun x => { x with actions := x.actions.set c.ix a })
  | _, _ => .refuse .badIndex

/-- SET_CLASS_ACTION (R161). -/
def execSetClassAction (s : State) : Host.Outcome State Fault Refusal :=
  takeRequest .setClassAction judgeSetClassAction s

/-- The seven classes in tag order. -/
def classList : List ReqClass := [.supervision, .map, .setup, .run, .fault, .stats, .device]

/-- The payload of READ_CLASS_ACTIONS (R171). -/
def classActionsPayload (s : State) : List Byte :=
  (classList.flatMap fun c => out8 (s.portA.actionFor c).code)
    ++ (classList.flatMap fun c => out8 (s.portB.actionFor c).code)

def judgeReadClassActions (_ : Port) (_ : Request) (s : State) : Verdict :=
  .take false (classActionsPayload s) s

/-- READ_CLASS_ACTIONS (R171). -/
def execReadClassActions (s : State) : Host.Outcome State Fault Refusal :=
  takeRequest .readClassActions judgeReadClassActions s

/-- Whether every group is IDLE or FAULTED (R168). -/
def State.allResting (s : State) : Bool :=
  groupList.all fun g => decide ((s.group g).state = .idle) || decide ((s.group g).state = .faulted)

/-- R168: taken, the reset is in flight from here on; its response carries the landing (`landingOf`). -/
def judgeResetPart (_ : Port) (q : Request) (s : State) : Verdict :=
  if s.allResting then
    match resetKindOf (natAt8 q.operands 0) with
    | none => .refuse .badValue
    | some _ => .take false [] { s with resetInFlight := true }
  else .refuse .wrongState

/-- RESET_PART (R168). -/
def execResetPart (s : State) : Host.Outcome State Fault Refusal := takeRequest .resetPart judgeResetPart s

end Sys2Proof.Machine
end

