-- ==== Sys2Proof/Machine/Dispatch.lean ====
section
/-! DEFINITION. One arm per command: its meaning, called in full. -/

namespace Sys2Proof.Machine

def exec (i : Instr) (s : State) : Host.Outcome State Fault Refusal :=
  match i with
  | .powerOn pins => Sys2Proof.Machine.execPowerOn pins s
  | .downstreamFrame port bytes => Sys2Proof.Machine.execDownstreamFrame port bytes s
  | .identify => Sys2Proof.Machine.execIdentify s
  | .keepalive => Sys2Proof.Machine.execKeepalive s
  | .readStatus => Sys2Proof.Machine.execReadStatus s
  | .writeMapEntry => Sys2Proof.Machine.execWriteMapEntry s
  | .readMapEntry => Sys2Proof.Machine.execReadMapEntry s
  | .clearMapEntry => Sys2Proof.Machine.execClearMapEntry s
  | .writePortPolicy => Sys2Proof.Machine.execWritePortPolicy s
  | .readPortPolicy => Sys2Proof.Machine.execReadPortPolicy s
  | .writeProfile => Sys2Proof.Machine.execWriteProfile s
  | .readProfile => Sys2Proof.Machine.execReadProfile s
  | .writeLimitSet => Sys2Proof.Machine.execWriteLimitSet s
  | .readLimitSet => Sys2Proof.Machine.execReadLimitSet s
  | .writeGroupConfig => Sys2Proof.Machine.execWriteGroupConfig s
  | .readGroupConfig => Sys2Proof.Machine.execReadGroupConfig s
  | .setRate => Sys2Proof.Machine.execSetRate s
  | .genConfig => Sys2Proof.Machine.execGenConfig s
  | .arm => Sys2Proof.Machine.execArm s
  | .disarm => Sys2Proof.Machine.execDisarm s
  | .start => Sys2Proof.Machine.execStart s
  | .stop => Sys2Proof.Machine.execStop s
  | .abort => Sys2Proof.Machine.execAbort s
  | .setLevel => Sys2Proof.Machine.execSetLevel s
  | .genStart => Sys2Proof.Machine.execGenStart s
  | .readGroupStatus => Sys2Proof.Machine.execReadGroupStatus s
  | .readFaults => Sys2Proof.Machine.execReadFaults s
  | .clearFaults => Sys2Proof.Machine.execClearFaults s
  | .setAlertMask => Sys2Proof.Machine.execSetAlertMask s
  | .setWatchdog => Sys2Proof.Machine.execSetWatchdog s
  | .forceWatchdog => Sys2Proof.Machine.execForceWatchdog s
  | .readPortStats => Sys2Proof.Machine.execReadPortStats s
  | .readGroupStats => Sys2Proof.Machine.execReadGroupStats s
  | .readChannelStats => Sys2Proof.Machine.execReadChannelStats s
  | .readServoStats => Sys2Proof.Machine.execReadServoStats s
  | .setClassAction => Sys2Proof.Machine.execSetClassAction s
  | .readClassActions => Sys2Proof.Machine.execReadClassActions s
  | .resetPart => Sys2Proof.Machine.execResetPart s
  | .undefinedOpcodeRequest => Sys2Proof.Machine.execUndefinedOpcodeRequest s
  | .playout group => Sys2Proof.Machine.execPlayout group s
  | .retryTimerExpiry group => Sys2Proof.Machine.execRetryTimerExpiry group s
  | .burstCompletion group => Sys2Proof.Machine.execBurstCompletion group s
  | .starveEvent group => Sys2Proof.Machine.execStarveEvent group s
  | .clampPersistEvent group lane => Sys2Proof.Machine.execClampPersistEvent group lane s
  | .fbLossEvent group => Sys2Proof.Machine.execFbLossEvent group s
  | .telemetryRecord group => Sys2Proof.Machine.execTelemetryRecord group s
  | .feedbackFrame bytes => Sys2Proof.Machine.execFeedbackFrame bytes s
  | .channelMonitorTrip lane monitor bytes => Sys2Proof.Machine.execChannelMonitorTrip lane monitor bytes s
  | .watchdogTick unit => Sys2Proof.Machine.execWatchdogTick unit s
  | .watchdogExpiry => Sys2Proof.Machine.execWatchdogExpiry s
  | .interlockOpening => Sys2Proof.Machine.execInterlockOpening s
  | .interlockClosing => Sys2Proof.Machine.execInterlockClosing s
  | .upstreamSendComplete port straps => Sys2Proof.Machine.execUpstreamSendComplete port straps s

end Sys2Proof.Machine
end

