-- ==== Sys2Proof/Safety.lean ====
section
/-! DEFINITION. What a safe state is, law by law, in the terms the statements use: each law is a property
the spec says the part has at every moment, and each is meant to hold after reset and to be kept by
every step. Two words for requests stand at the end. -/

namespace Sys2Proof.Machine

/-! ## Groups -/

/-- A queue holds at most 64 entries, and none in IDLE and FAULTED (R52). -/
abbrev Group.QueueLaw (g : Group) : Prop :=
  g.queue.length ≤ 64 ∧ ((g.state = .idle ∨ g.state = .faulted) → g.queue = [])

/-- The queue is empty while the source is GENERATOR (R100), and whenever the expected sequence is
absent (R54). -/
abbrev Group.SourceLaw (g : Group) : Prop :=
  (g.source = .generator → g.queue = []) ∧ (g.expected = none → g.queue = [])

/-- E and Lv within full scale, and A between its floor and full scale (R10, R26, R88). -/
abbrev Group.ScaleLaw (g : Group) : Prop :=
  g.env ≤ 4096 ∧ g.level ≤ 4096 ∧ g.cfg.attFloor ≤ g.att ∧ g.att ≤ 4096

/-- No treatment is RETRY with HOLD (R29). -/
abbrev Treatment.Law (t : Treatment) : Prop := ¬ (t.mode = .retry ∧ t.action = .hold)

/-- A group configuration within the ranges of R28. -/
abbrev GroupConfig.Law (c : GroupConfig) : Prop :=
  (1 ≤ c.fadeStep ∧ c.fadeStep ≤ 4096) ∧ (1 ≤ c.parkStep ∧ c.parkStep ≤ 4096) ∧ c.prefill ≤ 64
    ∧ (1 ≤ c.starveLimit ∧ c.starveLimit ≤ 255) ∧ c.gapFill ≤ 8 ∧ (1 ≤ c.fbLimit ∧ c.fbLimit ≤ 255)
    ∧ c.clampLimit ≤ 255 ∧ (1 ≤ c.retryTime ∧ c.retryTime ≤ 65535) ∧ c.retryLimit ≤ 15
    ∧ c.starve.Law ∧ c.seqBreak.Law ∧ c.fbLoss.Law ∧ c.clampPersist.Law ∧ c.watchdog.Law
    ∧ c.flowLimit ≤ 2147483647 ∧ (1 ≤ c.attStep ∧ c.attStep ≤ 4096) ∧ c.attFloor ≤ 4096 ∧ c.telemK ≤ 255

/-- A generator configuration within the ranges of R91. -/
abbrev GenConfig.Law (c : GenConfig) : Prop :=
  c.level.toInt ≠ -32768 ∧ 1 ≤ c.period ∧ c.period ≤ 4096 ∧ (c.pattern = .ramp → 2 ≤ c.period)
    ∧ c.seed ≠ 0 ∧ ∀ n ∈ c.count, 1 ≤ n ∧ n ≤ 16777215

/-- The noise register never 0, and the generated count within its range (R91, R96). -/
abbrev GenRun.Law (r : GenRun) : Prop := r.noise ≠ 0 ∧ r.count ≤ 16777215

/-- A limit set within the ranges of R117. -/
abbrev LimitSet.Law (ls : LimitSet) : Prop :=
  ls.posLo.toInt ≤ ls.posHi.toInt ∧ ls.forceMax ≤ 32767 ∧ ls.errMax ≤ 32767
    ∧ ∀ m ∈ [ls.position, ls.force, ls.error],
        1 ≤ m.deglitch ∧ m.deglitch ≤ 255 ∧ ¬ (m.mode = .retry ∧ m.action = .hold)

/-- A channel profile's gain, slew limit and flow weight within the ranges of R70; `Channel.RangeLaw` holds
its range and its park value. -/
abbrev Profile.Law (p : Profile) : Prop := p.gain ≤ 65535 ∧ p.slew ≤ 65535 ∧ p.weight ≤ 255

/-- The tallies balance while the enqueued tally stays below its maximum (R67). -/
abbrev Group.TallyLaw (g : Group) : Prop :=
  g.tallies.enqueued < 4294967295 →
    g.tallies.enqueued = g.tallies.played + g.tallies.skipped + g.tallies.flushed + g.queue.length

/-- The retry count never exceeds the limit of a group that is not IDLE, and a group on its way to
RETRY_WAIT stands below it (R143). -/
abbrev Group.RetryLaw (g : Group) : Prop :=
  g.state ≠ .idle → g.retryCount ≤ g.cfg.retryLimit
    ∧ (g.target = some .retryWait → g.state ≠ .retryWait → g.retryCount < g.cfg.retryLimit)

/-- The states without an episode (R146). -/
abbrev GState.Unfaulted (st : GState) : Prop :=
  st = .idle ∨ st = .armed ∨ st = .fadeIn ∨ st = .run ∨ st = .fadeOut

/-- No episode, and no ACTION kind, in IDLE, ARMED, FADE_IN, RUN and FADE_OUT; and no ACTION kind in an
episode that ends in IDLE (R146). -/
abbrev Group.EpisodeLaw (g : Group) : Prop :=
  (g.state.Unfaulted → g.action = none ∧ g.target = none)
    ∧ (g.state.Unfaulted ∨ g.target = some .idle → g.holdsAction = false)

/-- A channel's park value and last output within its range (R70, R80). -/
abbrev Channel.RangeLaw (c : Channel) : Prop :=
  c.profile.lmin.toInt < c.profile.lmax.toInt
    ∧ (c.profile.lmin.toInt ≤ c.profile.park.toInt ∧ c.profile.park.toInt ≤ c.profile.lmax.toInt)
    ∧ (c.profile.lmin.toInt ≤ c.yPrev.toInt ∧ c.yPrev.toInt ≤ c.profile.lmax.toInt)

/-- Every output within its channel's range, and in HELD the frozen source is the last output (R80, R83). -/
abbrev Group.OutputLaw (g : Group) : Prop :=
  ∀ l : LaneIx, (g.chans.get l).RangeLaw ∧ (g.state = .held → (g.chans.get l).x = (g.chans.get l).yPrev)

/-- In IDLE and FAULTED every monitor record stands at its cleared value (R123). -/
abbrev Group.MonitorLaw (g : Group) : Prop :=
  g.state = .idle ∨ g.state = .faulted → ∀ l : LaneIx,
    (g.chans.get l).position = clearedMonRec ∧ (g.chans.get l).force = clearedMonRec
      ∧ (g.chans.get l).error = clearedMonRec

/-- Every number of a list at or below a counter's maximum (R177). -/
abbrev Saturated (ns : List Nat) : Prop := ∀ n ∈ ns, n ≤ 4294967295

/-- A group's counters, tallies and channel counters never wrap (R5, R86, R177). -/
abbrev Group.CounterLaw (g : Group) : Prop :=
  Saturated [g.ctr.playouts, g.ctr.underruns, g.ctr.overflowDrops, g.ctr.staleDrops, g.ctr.gapFrames,
      g.ctr.fillerEntries, g.ctr.seqBreaks, g.ctr.unboundDrops, g.ctr.refusedDrops,
      g.ctr.feedbackAccepted, g.ctr.feedbackStale, g.ctr.trips]
    ∧ Saturated [g.tallies.enqueued, g.tallies.played, g.tallies.skipped, g.tallies.flushed]
    ∧ ∀ l : LaneIx, Saturated [(g.chans.get l).slewClamps, (g.chans.get l).rangeClamps]

/-- The counts that stop at 65535 or 255, and the decimation counter below its period (R1, R72, R120, R179). -/
abbrev Group.CountLaw (g : Group) : Prop :=
  g.streak ≤ 65535 ∧ g.sinceFb ≤ 65535
    ∧ (g.cfg.telemK = 0 → g.telemCount = 0) ∧ (g.cfg.telemK ≠ 0 → g.telemCount < g.cfg.telemK)
    ∧ ∀ l : LaneIx, (g.chans.get l).persist ≤ 65535
        ∧ ∀ m ∈ [(g.chans.get l).position, (g.chans.get l).force, (g.chans.get l).error], m.count ≤ 255

/-! ## The device -/

/-- Every group has a property. -/
abbrev State.EachGroup (s : State) (p : Group → Prop) : Prop := ∀ g : GroupIx, p (s.group g)

/-- The records that requests write stand within the ranges the spec gives them (R28, R36, R70, R91, R117,
R175); the stream map and the watchdog have laws of their own. -/
abbrev State.RecordLaw (s : State) : Prop :=
  s.EachGroup (fun g => g.cfg.Law ∧ g.gen.Law ∧ g.genRun.Law ∧ ∀ l : LaneIx, (g.chans.get l).profile.Law)
    ∧ (∀ i : SetIx, (s.limitSets.get i).Law)
    ∧ (∀ p ∈ [s.portA, s.portB], p.policy.defaultTag.toNat ≤ 0xFEF)
    ∧ kindSetOk s.alertMask = true

/-- An entry's fields: the cleared values when it is invalid, else a stream tag and two masks that are
not empty (R37). -/
abbrev MapEntry.Law (e : MapEntry) : Prop :=
  (e.valid = false → e = clearedEntry)
    ∧ (e.valid = true → (1 ≤ e.tag.toNat ∧ e.tag.toNat ≤ 0xFEF) ∧ e.laneMask ≠ 0 ∧ e.portMask ≠ 0)

/-- Every entry well formed, and for any tag and port at most one valid entry matches (R37, R40). -/
abbrev State.MapLaw (s : State) : Prop :=
  (∀ i : MapIx, (s.map.get i).Law)
    ∧ ∀ i j : MapIx, (s.map.get i).valid = true → (s.map.get j).valid = true →
        (s.map.get i).tag = (s.map.get j).tag → (s.map.get i).portMask &&& (s.map.get j).portMask ≠ 0 → i = j

/-- A group in IDLE is bound to nothing, and a bound entry is valid, PRIMARY and of the group bound to it (R2). -/
abbrev State.BindingLaw (s : State) : Prop :=
  ∀ g : GroupIx, ((s.group g).state = .idle → (s.group g).bound = none)
    ∧ ∀ i ∈ (s.group g).bound,
        (s.map.get i).valid = true ∧ (s.map.get i).role = .primary ∧ (s.map.get i).group = g

/-- At most four requests, responses and echoes on a port (R162, R165). -/
abbrev PortState.QueueLaw (p : PortState) : Prop :=
  p.requests.length ≤ 4 ∧ p.responses.length ≤ 4 ∧ p.echoes.length ≤ 4

/-- A transmitter that sends nothing has nothing to send, and one that sends a response or an echo
sends the head of its queue (R165, R181). -/
abbrev PortState.SendLaw (p : PortState) : Prop :=
  (p.sending = none → p.responses = [] ∧ p.echoes = [] ∧ ∀ g : GroupIx, p.slots.get g = none)
    ∧ ∀ f ∈ p.sending,
        (f.source = .response → p.responses.head? = some { frame := f.frame, landing := f.landing })
          ∧ (f.source = .echo → p.echoes.head? = some f.frame)

/-- Both ports' queues and transmitters. -/
abbrev State.PortLaw (s : State) : Prop := ∀ p ∈ [s.portA, s.portB], p.QueueLaw ∧ p.SendLaw

/-- SUPERVISION is EXECUTE on both ports, and DEVICE is discarded on one port at most (R161). -/
abbrev State.LockoutLaw (s : State) : Prop :=
  s.portA.actionFor .supervision = .execute ∧ s.portB.actionFor .supervision = .execute
    ∧ ¬ (s.portA.actionFor .device = .discard ∧ s.portB.actionFor .device = .discard)

/-- FAULT is asserted exactly when a group holds an ACTION kind, ALERT exactly when a group holds a kind
that the alert mask selects (R155). -/
abbrev State.LineLaw (s : State) : Prop :=
  (s.faultLine = true ↔ ∃ g : GroupIx, ∃ k ∈ kindList, (s.group g).classOf k = some .action)
    ∧ (s.alertLine = true ↔
        ∃ g : GroupIx, ∃ k ∈ kindList, ((s.group g).classOf k).isSome = true ∧ s.alertMask.getLsbD k.code = true)

/-- The watchdog holds one of its three states with a consistent count (R131 to R136). -/
abbrev State.WatchdogLaw (s : State) : Prop :=
  s.watchdog.period ≤ 255
    ∧ match s.watchdog.state with
      | .disabled => s.watchdog.period = 0 ∧ s.watchdog.remaining = 0
      | .running => 1 ≤ s.watchdog.remaining ∧ s.watchdog.remaining ≤ s.watchdog.period
      | .expired => 1 ≤ s.watchdog.period ∧ s.watchdog.remaining = 0

/-- While a part reset is in flight every group is IDLE or FAULTED (R169). -/
abbrev State.ResetLaw (s : State) : Prop :=
  s.resetInFlight = true → s.EachGroup fun g => g.state = .idle ∨ g.state = .faulted

/-- Every counter of the device and of its groups (R177). -/
abbrev State.CounterLaw (s : State) : Prop :=
  s.EachGroup (fun g => g.CounterLaw ∧ g.CountLaw)
    ∧ Saturated [s.servo.framesReceived, s.servo.checkErrors, s.servo.malformed]
    ∧ ∀ p ∈ [s.portA, s.portB],
        Saturated [p.ctr.framesReceived, p.ctr.checkErrors, p.ctr.malformed, p.ctr.admitRefused,
          p.ctr.unknownTag, p.ctr.unknownClass, p.ctr.classDiscarded, p.ctr.requestOverflow,
          p.ctr.echoDropped, p.ctr.telemetryReplaced, p.ctr.excessSamples]

/-- A safe state: every law holds. -/
abbrev State.Safe (s : State) : Prop :=
  s.EachGroup (fun g => g.QueueLaw ∧ g.SourceLaw ∧ g.ScaleLaw ∧ g.TallyLaw ∧ g.RetryLaw ∧ g.EpisodeLaw
      ∧ g.OutputLaw ∧ g.MonitorLaw)
    ∧ s.RecordLaw ∧ s.MapLaw ∧ s.BindingLaw ∧ s.PortLaw ∧ s.LockoutLaw ∧ s.LineLaw ∧ s.WatchdogLaw
    ∧ s.ResetLaw ∧ s.CounterLaw

/-- A property that every step keeps, whatever command it carries out. -/
def KeptByEveryStep (law : State → Prop) : Prop := ∀ s t : State, law s → step s = .next t → law t

/-! ## Requests -/

/-- The executor's next take is the request `q` of port `p`: an opcode of a class with these operands. -/
abbrev State.Asks (s : State) (p : Port) (q : Request) (c : ReqClass) (opcode : Nat) (ops : List Byte) :
    Prop :=
  s.nextRequest = some (p, q) ∧ q.cls = c ∧ q.opcode.toNat = opcode ∧ q.operands = ops

/-- The row of the command table that is the take of a request. -/
def ReqKind.row : ReqKind → Instr
  | .identify => .identify
  | .keepalive => .keepalive
  | .readStatus => .readStatus
  | .writeMapEntry => .writeMapEntry
  | .readMapEntry => .readMapEntry
  | .clearMapEntry => .clearMapEntry
  | .writePortPolicy => .writePortPolicy
  | .readPortPolicy => .readPortPolicy
  | .writeProfile => .writeProfile
  | .readProfile => .readProfile
  | .writeLimitSet => .writeLimitSet
  | .readLimitSet => .readLimitSet
  | .writeGroupConfig => .writeGroupConfig
  | .readGroupConfig => .readGroupConfig
  | .setRate => .setRate
  | .genConfig => .genConfig
  | .arm => .arm
  | .disarm => .disarm
  | .start => .start
  | .stop => .stop
  | .abort => .abort
  | .setLevel => .setLevel
  | .genStart => .genStart
  | .readGroupStatus => .readGroupStatus
  | .readFaults => .readFaults
  | .clearFaults => .clearFaults
  | .setAlertMask => .setAlertMask
  | .setWatchdog => .setWatchdog
  | .forceWatchdog => .forceWatchdog
  | .readPortStats => .readPortStats
  | .readGroupStats => .readGroupStats
  | .readChannelStats => .readChannelStats
  | .readServoStats => .readServoStats
  | .setClassAction => .setClassAction
  | .readClassActions => .readClassActions
  | .resetPart => .resetPart

end Sys2Proof.Machine
end

