-- ==== Sys2Proof/Certificates/Slice0/Obligations.lean ====
section
/-! DEFINITION. The statements for the provers, each about this model of the D24 and each read from the
numbered rules its docstring names. A statement whose docstring names a log entry rests on a choice of
the model's there. In a statement about a request, `s.Asks p q c n ops` says that the executor takes the
request `q` of port `p` next, an opcode `n` of class `c` with operand bytes `ops`; `s.carryOut p q v` is
the request's one event with the verdict `v`; what such an event does to the ports is stated apart, in
`EveryTakenRequestIsAnsweredOnce` and `RefusedRequestChangesNoBlock`. -/

open Sys2Proof Sys2Proof.Machine

/-! ## The machine -/

/-- A step carries out the command at the front of the queue, on the state with the queue's rest. -/
def Obligations.StepRunsTheFrontCommand : Prop :=
  ∀ (s : State) (c : Instr) (rest : List Instr), s.pending = c :: rest →
    step s = exec c { s with pending := rest }

/-- Every command is answered with a next state, in every state, and none touches the queue of commands:
the spec gives every event an outcome in every state. With no command waiting the part idles: the
model's choice (log entry 10). -/
def Obligations.EveryCommandAnswersAndTheEmptyQueueIdles : Prop :=
  (∀ (c : Instr) (s : State), ∃ t : State, exec c s = .next t ∧ t.pending = s.pending)
  ∧ ∀ s : State, s.pending = [] → step s = .next s

/-- POWER_ON puts every block at its power-on values, from the straps and the line as they stand (R1, R7,
R28, R36, R38, R52, R70, R72, R86, R91, R108, R114, R117, R120, R131, R137, R155, R161, R163, R167),
and every statistics counter at 0 (R177). -/
def Obligations.PowerOnGivesThePowerOnValues : Prop :=
  ∀ (pins : Pins) (s : State), ∃ t : State, exec (.powerOn pins) s = .next t
    ∧ t.straps = pins.straps ∧ t.interlockOpen = pins.interlockOpen ∧ t.rate.hertz = 1024
    ∧ t.preferred = .a ∧ t.resetInFlight = false ∧ t.faultLine = false ∧ t.alertLine = false
    ∧ t.alertMask = 0x07FE#16
    ∧ (∀ i : MapIx, ∀ g : GroupIx, pins.straps.defmap = true → i.val = g.val →
        t.map.get i = { valid := true, tag := BitVec.ofNat 12 (0x100 + g.val), role := .primary, group := g,
                        laneMask := 0x3F#6, portMask := 1#2, lastTrim := none })
    ∧ (∀ i : MapIx, (pins.straps.defmap = false ∨ 4 ≤ i.val) →
        t.map.get i = { valid := false, tag := 0, role := .primary, group := 0, laneMask := 0,
                        portMask := 0, lastTrim := none })
    ∧ t.watchdog = (if pins.straps.wddef = true then
        { period := 50, unit := .ms10, remaining := 50, state := .running }
        else { period := 0, unit := .ms10, remaining := 0, state := .disabled })
    ∧ (∀ g : GroupIx, (t.group g).state = .idle ∧ (t.group g).bound = none ∧ (t.group g).source = .stream
        ∧ (t.group g).expected = none ∧ (t.group g).outSeq = 0 ∧ (t.group g).env = 0
        ∧ (t.group g).level = 4096 ∧ (t.group g).att = 4096 ∧ (t.group g).retryCount = 0
        ∧ (t.group g).retryTimer = 0 ∧ (t.group g).resume = .fadeIn ∧ (t.group g).streak = 0
        ∧ (t.group g).sinceFb = 0 ∧ (t.group g).telemCount = 0 ∧ (t.group g).genDone = false
        ∧ (t.group g).tallies = { enqueued := 0, played := 0, skipped := 0, flushed := 0 }
        ∧ (∀ k : Kind, (t.group g).classOf k = none) ∧ (t.group g).firstTrip = none
        ∧ (t.group g).action = none ∧ (t.group g).target = none ∧ (t.group g).queue = []
        ∧ (t.group g).lastEcho = none
        ∧ (t.group g).cfg =
          { fadeStep := 16, parkStep := 64, prefill := 16, starveLimit := 8, gapFill := 2, fbLimit := 16,
            clampLimit := 0, retryTime := 2048, retryLimit := 3,
            starve := { mode := .latch, action := .park }, seqBreak := { mode := .report, action := .park },
            fbLoss := { mode := .latch, action := .park },
            clampPersist := { mode := .report, action := .park },
            watchdog := { mode := .latch, action := .park },
            flowLimit := 0, attStep := 64, attFloor := 1024, telemK := 0, telemPort := .a }
        ∧ (t.group g).gen =
          { pattern := .constant, level := 0, period := 256, seed := 0xACE1#16, count := some 1024,
            mask := 0x3F#6 }
        ∧ (t.group g).genRun = { phase := 0, noise := 0xACE1#16, count := 0, ended := false }
        ∧ (t.group g).ctr =
          { playouts := 0, underruns := 0, overflowDrops := 0, staleDrops := 0, gapFrames := 0,
            fillerEntries := 0, seqBreaks := 0, unboundDrops := 0, refusedDrops := 0,
            feedbackAccepted := 0, feedbackStale := 0, trips := 0 })
    ∧ (∀ (g : GroupIx) (l : LaneIx), ((t.group g).chans.get l).profile =
          { gain := 16384, offset := 0, polarity := .normal, slew := 0, lmin := 0x8000#16,
            lmax := 0x7FFF#16, park := 0, limitSet := 0, weight := 1 }
        ∧ ((t.group g).chans.get l).yPrev = 0 ∧ ((t.group g).chans.get l).d = 0
        ∧ ((t.group g).chans.get l).x = 0 ∧ ((t.group g).chans.get l).trim = 0
        ∧ ((t.group g).chans.get l).slewFlag = false ∧ ((t.group g).chans.get l).rangeFlag = false
        ∧ ((t.group g).chans.get l).persist = 0
        ∧ ((t.group g).chans.get l).position = { cond := false, count := 0, tripped := false }
        ∧ ((t.group g).chans.get l).force = { cond := false, count := 0, tripped := false }
        ∧ ((t.group g).chans.get l).error = { cond := false, count := 0, tripped := false }
        ∧ ((t.group g).chans.get l).slewClamps = 0 ∧ ((t.group g).chans.get l).rangeClamps = 0)
    ∧ t.servo = { framesReceived := 0, checkErrors := 0, malformed := 0 }
    ∧ (∀ i : SetIx, (t.limitSets.get i).posLo.toInt = -32768 ∧ (t.limitSets.get i).posHi.toInt = 32767
        ∧ (t.limitSets.get i).forceMax = 32767 ∧ (t.limitSets.get i).errMax = 32767
        ∧ ∀ k : ChannelKind, (t.limitSets.get i).mon k = { deglitch := 1, mode := .off, action := .park })
    ∧ (∀ p : Port, (t.port p).policy = { policy := .all, defaultTag := 0 } ∧ (t.port p).requests = []
        ∧ (t.port p).responses = [] ∧ (t.port p).echoes = [] ∧ (t.port p).sending = none
        ∧ (t.port p).nextGroup = 0 ∧ (∀ g : GroupIx, (t.port p).slots.get g = none)
        ∧ (∀ c : ReqClass, (t.port p).actionFor c = .execute)
        ∧ (t.port p).ctr =
          { framesReceived := 0, checkErrors := 0, malformed := 0, admitRefused := 0, unknownTag := 0,
            unknownClass := 0, classDiscarded := 0, requestOverflow := 0, echoDropped := 0,
            telemetryReplaced := 0, excessSamples := 0 })

/-- Every law of a safe state holds right after reset, and after POWER_ON at any input levels. -/
def Obligations.SafeAfterReset : Prop :=
  State.reset.Safe ∧ ∀ (straps : Straps) (pins : Pins), (State.fresh straps pins).Safe

/-! ## Laws that every step keeps -/

/-- A replay queue holds at most 64 entries, none in IDLE and FAULTED (R52), none while the source is
GENERATOR (R100), and none while the expected sequence is absent (R54). -/
def Obligations.ReplayQueueLawsAreKept : Prop :=
  KeptByEveryStep fun s => s.EachGroup fun g => g.QueueLaw ∧ g.SourceLaw

/-- For every group E and Lv stay within 0 to 4096, and Amin ≤ A ≤ 4096 (R10, R26, R88). -/
def Obligations.ScaleLawIsKept : Prop := KeptByEveryStep fun s => s.EachGroup Group.ScaleLaw

/-- Every record that a request writes stays within the ranges the spec gives its fields: the group
configurations, generators, channel profiles, limit sets, port policies and the alert mask (R28, R36,
R70, R91, R117, R175) here, a profile's Lmin, Lmax and Pk in `OutputsStayInRange`, the stream map and the
watchdog in `StreamMapLawIsKept` and `WatchdogLawIsKept`; and the noise register never reaches 0 (R96). -/
def Obligations.RecordRangesAreKept : Prop := KeptByEveryStep State.RecordLaw

/-- The tallies balance: enqueued = played + skipped + flushed + occupancy (R67). -/
def Obligations.TallyBalanceIsKept : Prop := KeptByEveryStep fun s => s.EachGroup Group.TallyLaw

/-- The retry count of a group that is not IDLE never exceeds its retry limit (R143). -/
def Obligations.RetryCountStaysWithinItsLimit : Prop :=
  KeptByEveryStep fun s => s.EachGroup Group.RetryLaw

/-- The episode record holds none in IDLE, ARMED, FADE_IN, RUN and FADE_OUT, and no ACTION kind stands
in the latched fault set there (R146). -/
def Obligations.EpisodeLawIsKept : Prop := KeptByEveryStep fun s => s.EachGroup Group.EpisodeLaw

/-- Every output lies within its channel's profile range (R80). -/
def Obligations.OutputsStayInRange : Prop := KeptByEveryStep fun s => s.EachGroup Group.OutputLaw

/-- In IDLE and FAULTED the channel monitor records stand at their cleared values (R123). -/
def Obligations.MonitorRecordsStayClearedAtRest : Prop :=
  KeptByEveryStep fun s => s.EachGroup Group.MonitorLaw

/-- Every statistics counter lies between 0 and 4,294,967,295 (R177), and every count that stops at a
bound stays within it (R1, R72, R120, R179). -/
def Obligations.CountersNeverWrap : Prop := KeptByEveryStep State.CounterLaw

/-- For any tag and port at most one valid stream map entry matches (R40), and an invalid entry holds the
cleared values (R37). -/
def Obligations.StreamMapLawIsKept : Prop := KeptByEveryStep State.MapLaw

/-- A group in IDLE has no bound entry; a bound entry is valid, has role PRIMARY and names the group it is
bound to (R2). -/
def Obligations.BindingLawIsKept : Prop := KeptByEveryStep State.BindingLaw

/-- No port queue holds more than 4 frames or requests (R162, R165), and a transmitter at rest has nothing
to send (R181). -/
def Obligations.PortQueueLawsAreKept : Prop := KeptByEveryStep State.PortLaw

/-- SUPERVISION is EXECUTE on both ports at all times, and DEVICE stays executed on at least one (R161). -/
def Obligations.LockoutLawIsKept : Prop := KeptByEveryStep State.LockoutLaw

/-- FAULT is asserted exactly when a latched fault set holds an ACTION kind, and ALERT exactly when one
holds a kind the alert mask selects (R155). -/
def Obligations.LinesFollowTheFaultSets : Prop := KeptByEveryStep State.LineLaw

/-- The watchdog holds one of its three states with a consistent count (R131 to R136). -/
def Obligations.WatchdogLawIsKept : Prop := KeptByEveryStep State.WatchdogLaw

/-- While a part reset is in flight no group leaves IDLE or FAULTED (R169). -/
def Obligations.NoGroupMovesDuringAReset : Prop := KeptByEveryStep State.ResetLaw

/-! ## Requests: the event they share -/

/-- The port arbiter (R163): a port is ready when its request queue is not empty, its response queue
holds fewer than 4 responses and, for a RESET_PART, the other port's response queue is empty; the
preferred port is served if it is ready, else the other; nothing is taken while a reset is in flight; the
port not taken from becomes preferred; and A is preferred after every reset. -/
def Obligations.ArbiterServesThePreferredReadyPort : Prop :=
  ∀ s : State,
    (∀ p : Port, s.ready p = true ↔ ∃ (q : Request) (rest : List Request), (s.port p).requests = q :: rest
        ∧ (s.port p).responses.length < 4
        ∧ (q.kind = some .resetPart → (s.port (otherPort p)).responses = []))
    ∧ (s.resetInFlight = true → s.nextRequest = none)
    ∧ (s.resetInFlight = false → ∀ (q : Request) (rest : List Request) (p : Port),
        (s.port p).requests = q :: rest → s.ready p = true →
        (p = s.preferred ∨ s.ready s.preferred = false) → s.nextRequest = some (p, q))
    ∧ ((∀ p : Port, s.ready p = false) → s.nextRequest = none)
    ∧ (∀ (p : Port) (q : Request), s.nextRequest = some (p, q) →
        (∀ k : ReqKind, q.kind = some k → ∃ t : State, exec k.row s = .next t ∧ t.preferred = otherPort p)
        ∧ (q.kind = none →
          ∃ t : State, exec .undefinedOpcodeRequest s = .next t ∧ t.preferred = otherPort p))
    ∧ ∀ (straps : Straps) (pins : Pins), (State.fresh straps pins).preferred = .a

/-- Every request that the executor takes, of a kind or of an opcode its class does not define, produces
exactly one response, on the port it arrived on (R157, R159, R164); it leaves the head of its queue and
the other port becomes preferred (R162, R163); and a recorded EXECUTE_ECHO makes one echo on the other
port, but for RESET_PART, dropped and counted when that echo queue holds 4 (R164, R168). The count of
dropped echoes goes on from 0 where the request has cleared it (READ_PORT_STATS, R178). -/
def Obligations.EveryTakenRequestIsAnsweredOnce : Prop :=
  ∀ (row : Instr) (s : State) (p : Port) (q : Request) (dropped : Nat), s.nextRequest = some (p, q) →
    row = (match q.kind with | some k => k.row | none => .undefinedOpcodeRequest) →
    dropped = (if q.kind = some .readPortStats ∧ q.operands = [BitVec.ofNat 8 (portCode (otherPort p)), 1]
      then 0 else (s.port (otherPort p)).ctr.echoDropped) →
    ∃ (t : State) (st : Status) (payload : List Byte), exec row s = .next t
      ∧ payload.length ≤ 240
      ∧ (t.port p).requests = (s.port p).requests.tail
      ∧ (t.port (otherPort p)).requests = (s.port (otherPort p)).requests
      ∧ t.preferred = otherPort p
      ∧ (t.port p).responses.map QResponse.frame = (s.port p).responses.map QResponse.frame
          ++ [{ tag := q.cls.tag, kind := .response, unit := s.straps.unitId, origin := .a, ident := q.id,
                status := BitVec.ofNat 8 st.code, payload := payload }]
      ∧ (st ≠ .ok → st ≠ .adjusted → payload = [])
      ∧ (t.port (otherPort p)).responses = (s.port (otherPort p)).responses
      ∧ (t.port p).echoes = (s.port p).echoes
      ∧ (t.port (otherPort p)).echoes =
          (if q.action = .executeEcho ∧ q.kind ≠ some .resetPart
              ∧ (s.port (otherPort p)).echoes.length < 4 then
            (s.port (otherPort p)).echoes
              ++ [{ tag := q.cls.tag, kind := .echo, unit := s.straps.unitId, origin := p, ident := q.id,
                    status := BitVec.ofNat 8 st.code, payload := q.opcode :: q.operands }]
          else (s.port (otherPort p)).echoes)
      ∧ (t.port (otherPort p)).ctr.echoDropped =
          (if q.action = .executeEcho ∧ q.kind ≠ some .resetPart
              ∧ 4 ≤ (s.port (otherPort p)).echoes.length then min (dropped + 1) 4294967295
          else dropped)

/-- What a taken request answers and leaves (R157, R158, R164, R168): whatever its payload and whatever
state `t` its effect gives, `carryOut` leaves every block as `t` has it and appends one response to the
arrival port's queue, OK or ADJUSTED as the verdict says, with exactly that payload; the echo, where
there is one, carries the same status. A transmitter that sends is left to it, and one at rest begins
what has joined its queue (R181). -/
def Obligations.TakenRequestAnswersItsPayload : Prop :=
  ∀ (s : State) (p : Port) (q : Request) (adjusted : Bool) (payload : List Byte) (t u : State)
    (r : QResponse) (e : UpFrame),
    u = s.carryOut p q (.take adjusted payload t) →
    r = { frame := { tag := q.cls.tag, kind := .response, unit := t.straps.unitId, origin := .a,
                     ident := q.id, status := if adjusted then 0x01#8 else 0x00#8, payload := payload },
          landing := if q.kind = some .resetPart then
            (match natAt8 q.operands 0 with | 0 => some .reload | 1 => some .resample | _ => none)
            else none } →
    e = { tag := q.cls.tag, kind := .echo, unit := t.straps.unitId, origin := p, ident := q.id,
          status := if adjusted then 0x01#8 else 0x00#8, payload := q.opcode :: q.operands } →
    u = { t with portA := u.portA, portB := u.portB }
    ∧ u.port p = { t.port p with
        responses := (t.port p).responses ++ [r], sending := (u.port p).sending }
    ∧ ((t.port p).sending ≠ none → (u.port p).sending = (t.port p).sending)
    ∧ ((t.port p).sending = none → (t.port p).responses = [] → (u.port p).sending =
        some { frame := r.frame, source := .response, landing := r.landing })
    ∧ (q.action ≠ .executeEcho ∨ q.kind = some .resetPart →
        u.port (otherPort p) = t.port (otherPort p))
    ∧ (q.action = .executeEcho → q.kind ≠ some .resetPart →
      (4 ≤ (t.port (otherPort p)).echoes.length → u.port (otherPort p) = { t.port (otherPort p) with
        ctr := { (t.port (otherPort p)).ctr with
          echoDropped := min ((t.port (otherPort p)).ctr.echoDropped + 1) 4294967295 } })
      ∧ ((t.port (otherPort p)).echoes.length < 4 →
        u.port (otherPort p) = { t.port (otherPort p) with
          echoes := (t.port (otherPort p)).echoes ++ [e], sending := (u.port (otherPort p)).sending }
        ∧ ((t.port (otherPort p)).sending ≠ none →
          (u.port (otherPort p)).sending = (t.port (otherPort p)).sending)
        ∧ ((t.port (otherPort p)).sending = none → (t.port (otherPort p)).responses = [] →
          (t.port (otherPort p)).echoes = [] →
          (u.port (otherPort p)).sending = some { frame := e, source := .echo, landing := none })))

/-- A refused request changes nothing in any block (R158): beside the take (its queue's head, the
preferred port), its response and its echo, every register, queue and counter stands. An opcode its
class does not define is refused BAD_OPCODE whatever its length, and a wrong operand length BAD_LENGTH
(R159). -/
def Obligations.RefusedRequestChangesNoBlock : Prop :=
  (∀ (s : State) (p : Port) (q : Request), s.nextRequest = some (p, q) → q.kind = none →
    exec .undefinedOpcodeRequest s = .next (s.carryOut p q (.refuse .badOpcode)))
  ∧ (∀ (k : ReqKind) (s : State) (p : Port) (q : Request), s.nextRequest = some (p, q) →
      q.kind = some k → q.operands.length ≠ k.length →
      exec k.row s = .next (s.carryOut p q (.refuse .badLength)))
  ∧ ∀ (s : State) (p : Port) (q : Request) (st : Status),
      ∃ t : State, s.carryOut p q (.refuse st) = t
        ∧ t = { s with preferred := otherPort p, portA := t.portA, portB := t.portB }
        ∧ t.port p = { s.port p with
            requests := (s.port p).requests.tail
            sending := (t.port p).sending
            responses := (s.port p).responses
              ++ [{ frame := { tag := q.cls.tag, kind := .response, unit := s.straps.unitId, origin := .a,
                               ident := q.id, status := BitVec.ofNat 8 st.code, payload := [] },
                    landing := none }] }
        ∧ t.port (otherPort p) = { s.port (otherPort p) with
            echoes := (t.port (otherPort p)).echoes
            sending := (t.port (otherPort p)).sending
            ctr := { (s.port (otherPort p)).ctr with
              echoDropped := (t.port (otherPort p)).ctr.echoDropped } }
        ∧ (q.action ≠ .executeEcho ∨ q.kind = some .resetPart →
            t.port (otherPort p) = s.port (otherPort p))

/-! ## Requests: reading -/

/-- The reads that leave every record as it stands: IDENTIFY and READ_STATUS with the fields of R172,
READ_MAP_ENTRY and READ_CLASS_ACTIONS with those of R171, READ_PORT_POLICY and READ_PROFILE with the
operand sequence a write of the record would carry, byte by byte (R171, R176), READ_LIMIT_SET and
READ_GROUP_CONFIG with the payloads that `ReadPayloadsReadBackAsWrites` pins. -/
def Obligations.ReadsReportAndChangeNothing : Prop :=
  ∀ (s : State) (p : Port) (q : Request),
    (s.Asks p q .supervision 1 [] → exec .identify s = .next (s.carryOut p q (.take false
      [0x0D, 0x24, 0x01, s.straps.unitId.zeroExtend 8, if s.straps.defmap then 1 else 0,
        if s.straps.wddef then 1 else 0] (s.dequeue p))))
    ∧ (s.Asks p q .supervision 3 [] → exec .readStatus s = .next (s.carryOut p q (.take false
      (out16 s.rate.hertz ++ [if s.interlockOpen then 1#8 else 0#8]
        ++ [(match s.watchdog.state with | .disabled => 0#8 | .running => 1#8 | .expired => 2#8)]
        ++ [BitVec.ofNat 8 s.watchdog.remaining, BitVec.ofNat 8 s.watchdog.period]
        ++ [(match s.watchdog.unit with | .ms10 => 0#8 | .s1 => 1#8)]
        ++ [BitVec.ofNat 8 (s.group 0).state.code, BitVec.ofNat 8 (s.group 1).state.code,
            BitVec.ofNat 8 (s.group 2).state.code, BitVec.ofNat 8 (s.group 3).state.code]
        ++ [if s.faultLine then 1#8 else 0#8, if s.alertLine then 1#8 else 0#8]) (s.dequeue p))))
    ∧ (∀ i : MapIx, s.Asks p q .map 2 [BitVec.ofNat 8 i.val] → ∃ b : Byte,
        ((∃ g : GroupIx, (s.group g).bound = some i ∧ b = BitVec.ofNat 8 g.val)
          ∨ (∀ g : GroupIx, (s.group g).bound ≠ some i) ∧ b = 255)
        ∧ exec .readMapEntry s = .next (s.carryOut p q (.take false
          ([BitVec.ofNat 8 i.val, if (s.map.get i).valid then 1#8 else 0#8]
            ++ outWord ((s.map.get i).tag.zeroExtend 16)
            ++ [(match (s.map.get i).role with | .primary => 0#8 | .trim => 1#8),
                BitVec.ofNat 8 (s.map.get i).group.val, (s.map.get i).laneMask.zeroExtend 8,
                (s.map.get i).portMask.zeroExtend 8]
            ++ (match (s.map.get i).lastTrim with
              | some w => 1#8 :: outWord w
              | none => [0#8, 0#8, 0#8])
            ++ [b]) (s.dequeue p))))
    ∧ (∀ r : Port, s.Asks p q .map 5 [BitVec.ofNat 8 (portCode r)] →
        exec .readPortPolicy s =
          .next (s.carryOut p q (.take false
            ([BitVec.ofNat 8 (portCode r), (match (s.port r).policy.policy with
                | .all => 0#8 | .taggedOnly => 1#8 | .untaggedOnly => 2#8)]
              ++ outWord ((s.port r).policy.defaultTag.zeroExtend 16)) (s.dequeue p))))
    ∧ (∀ (g : GroupIx) (l : LaneIx) (f : Profile), f = ((s.group g).chans.get l).profile →
        s.Asks p q .setup 2 [BitVec.ofNat 8 (6 * g.val + l.val)] →
        exec .readProfile s = .next (s.carryOut p q (.take false
          ([BitVec.ofNat 8 (6 * g.val + l.val)] ++ out16 f.gain ++ outWord f.offset
            ++ [(match f.polarity with | .normal => 0#8 | .inverted => 1#8)] ++ out16 f.slew
            ++ outWord f.lmin ++ outWord f.lmax ++ outWord f.park
            ++ [BitVec.ofNat 8 f.limitSet.val, BitVec.ofNat 8 f.weight]) (s.dequeue p))))
    ∧ (∀ i : SetIx, s.Asks p q .setup 4 [BitVec.ofNat 8 i.val] → exec .readLimitSet s =
        .next (s.carryOut p q (.take false (limitSetPayload i (s.limitSets.get i)) (s.dequeue p))))
    ∧ (∀ g : GroupIx, s.Asks p q .setup 6 [BitVec.ofNat 8 g.val] → exec .readGroupConfig s =
        .next (s.carryOut p q (.take false (configPayload g (s.group g).cfg) (s.dequeue p))))
    ∧ (s.Asks p q .device 2 [] → exec .readClassActions s = .next (s.carryOut p q (.take false
        (classList.map (fun c => BitVec.ofNat 8 (s.portA.actionFor c).code)
          ++ classList.map fun c => BitVec.ofNat 8 (s.portB.actionFor c).code) (s.dequeue p))))

/-- What READ_LIMIT_SET, READ_GROUP_CONFIG and GEN_CONFIG answer is the operand sequence of the record as
it stands (R171): the length a write needs, the index first, and read as the operands of a write it
gives the record back, whatever the record within its law, the ranges that `RecordRangesAreKept` says
every record keeps. -/
def Obligations.ReadPayloadsReadBackAsWrites : Prop :=
  (∀ (i : SetIx) (ls : LimitSet) (bs : List Byte), ls.Law → bs = limitSetPayload i ls →
    limitSetOf bs = some ls ∧ limitSetAltered bs = false
      ∧ bs.length = 18 ∧ byteAt bs 0 = BitVec.ofNat 8 i.val)
  ∧ (∀ (g : GroupIx) (c : GroupConfig) (bs : List Byte), c.Law → bs = configPayload g c →
    groupConfigOf bs = some c ∧ bs.length = 33 ∧ byteAt bs 0 = BitVec.ofNat 8 g.val)
  ∧ ∀ (g : GroupIx) (c : GenConfig) (bs : List Byte), c.Law → bs = genPayload g c →
    genConfigOf bs = some c ∧ bs.length = 12 ∧ byteAt bs 0 = BitVec.ofNat 8 g.val

/-- The four STATS requests answer their counter set as it stood, and a clear operand of 1 zeroes that set
and nothing else; a clear operand above 1 is refused BAD_VALUE (R178). -/
def Obligations.StatsSnapshotsClearOnlyTheirSet : Prop :=
  ∀ (s : State) (p : Port) (q : Request) (b : Byte),
    (∀ r : Port, s.Asks p q .stats 1 [BitVec.ofNat 8 (portCode r), b] →
      (b.toNat ≤ 1 → exec .readPortStats s = .next (s.carryOut p q (.take false
        ((s.port r).ctr.payload)
        (if b = 1 then (s.dequeue p).modPort r fun x => { x with ctr :=
            { framesReceived := 0, checkErrors := 0, malformed := 0, admitRefused := 0, unknownTag := 0,
              unknownClass := 0, classDiscarded := 0, requestOverflow := 0, echoDropped := 0,
              telemetryReplaced := 0, excessSamples := 0 } }
          else s.dequeue p))))
      ∧ (2 ≤ b.toNat → exec .readPortStats s = .next (s.carryOut p q (.refuse .badValue))))
    ∧ (∀ g : GroupIx, s.Asks p q .stats 2 [BitVec.ofNat 8 g.val, b] →
      (b.toNat ≤ 1 → exec .readGroupStats s = .next (s.carryOut p q (.take false
        ((s.group g).ctr.payload ++ out32 (s.group g).tallies.enqueued ++ out32 (s.group g).tallies.played
          ++ out32 (s.group g).tallies.skipped ++ out32 (s.group g).tallies.flushed
          ++ [BitVec.ofNat 8 (s.group g).queue.length])
        (if b = 1 then (s.dequeue p).modGroup g fun x => { x with ctr :=
            { playouts := 0, underruns := 0, overflowDrops := 0, staleDrops := 0, gapFrames := 0,
              fillerEntries := 0, seqBreaks := 0, unboundDrops := 0, refusedDrops := 0,
              feedbackAccepted := 0, feedbackStale := 0, trips := 0 } }
          else s.dequeue p))))
      ∧ (2 ≤ b.toNat → exec .readGroupStats s = .next (s.carryOut p q (.refuse .badValue))))
    ∧ (∀ (g : GroupIx) (l : LaneIx), s.Asks p q .stats 3 [BitVec.ofNat 8 (6 * g.val + l.val), b] →
      (b.toNat ≤ 1 → exec .readChannelStats s = .next (s.carryOut p q (.take false
        (out32 ((s.group g).chans.get l).slewClamps ++ out32 ((s.group g).chans.get l).rangeClamps
          ++ [if ((s.group g).chans.get l).slewFlag then 1#8 else 0#8,
              if ((s.group g).chans.get l).rangeFlag then 1#8 else 0#8]
          ++ out16 ((s.group g).chans.get l).persist)
        (if b = 1 then (s.dequeue p).modGroup g fun x => { x with
            chans := x.chans.modify l fun c => { c with slewClamps := 0, rangeClamps := 0 } }
          else s.dequeue p))))
      ∧ (2 ≤ b.toNat → exec .readChannelStats s = .next (s.carryOut p q (.refuse .badValue))))
    ∧ (s.Asks p q .stats 4 [b] →
      (b.toNat ≤ 1 → exec .readServoStats s = .next (s.carryOut p q (.take false
        (out32 s.servo.framesReceived ++ out32 s.servo.checkErrors ++ out32 s.servo.malformed)
        (if b = 1 then
            { s.dequeue p with servo := { framesReceived := 0, checkErrors := 0, malformed := 0 } }
          else s.dequeue p))))
      ∧ (2 ≤ b.toNat → exec .readServoStats s = .next (s.carryOut p q (.refuse .badValue))))

/-- READ_GROUP_STATUS answers the 39 bytes of R173 and clears the generator done flag in the same event
(R99). -/
def Obligations.ReadGroupStatusClearsTheDoneFlag : Prop :=
  ∀ (s : State) (p : Port) (q : Request) (g : GroupIx), s.Asks p q .run 8 [BitVec.ofNat 8 g.val] →
    exec .readGroupStatus s = .next (s.carryOut p q (.take false
      ([BitVec.ofNat 8 (s.group g).state.code,
          (match (s.group g).source with | .stream => 0#8 | .generator => 1#8),
          (match (s.group g).bound with | some i => BitVec.ofNat 8 i.val | none => 255#8)]
        ++ (match (s.group g).expected with | some w => 1#8 :: outWord w | none => [0#8, 0#8, 0#8])
        ++ outWord (s.group g).outSeq ++ out16 (s.group g).env ++ out16 (s.group g).level
        ++ out16 (s.group g).att ++ [BitVec.ofNat 8 (s.group g).queue.length,
          BitVec.ofNat 8 (s.group g).retryCount] ++ out16 (s.group g).retryTimer
        ++ [(match (s.group g).resume with | .armed => 1#8 | .fadeIn => 2#8)]
        ++ out16 (s.group g).streak ++ out16 (s.group g).sinceFb
        ++ (match (s.group g).lastEcho with | some w => 1#8 :: outWord w | none => [0#8, 0#8, 0#8])
        ++ [if (s.group g).genDone then 1#8 else 0#8]
        ++ lanes.flatMap fun l => outWord ((s.group g).chans.get l).yPrev)
      ((s.dequeue p).setGroup g { s.group g with genDone := false })))

/-- READ_FAULTS answers the 21 bytes of R174 and changes no record. Where a first-trip record holds no
observed value the spec states no value for that field, and it is free (log entry 5): the statement
holds for whatever two bytes `v` they are, and the model's own occasion number `n` alone may move. -/
def Obligations.ReadFaultsReportsTheEpisode : Prop :=
  ∀ (s : State) (p : Port) (q : Request) (g : GroupIx), s.Asks p q .fault 1 [BitVec.ofNat 8 g.val] →
    ∃ (v : Du) (n : Nat), exec .readFaults s = .next (s.carryOut p q (.take false
      (outWord (s.group g).actionSet ++ outWord (s.group g).reportSet
        ++ (match (s.group g).firstTrip with
          | none => List.replicate 9 0#8
          | some f => [1#8, BitVec.ofNat 8 f.kind.code,
              (match f.lane with | some l => BitVec.ofNat 8 l.val | none => 255#8)]
            ++ outWord f.outSeq
            ++ (match f.observed with | some w => 1#8 :: outWord w | none => 0#8 :: outWord v)
            ++ [if f.mode = .retry then 1#8 else 0#8])
        ++ [(match (s.group g).action with
            | some .park => 0#8 | some .hold => 1#8 | some .null => 2#8 | none => 255#8),
            (match (s.group g).target with
            | some .idle => 0#8 | some .retryWait => 7#8 | some .faulted => 8#8 | none => 255#8)]
        ++ lanes.map fun l => BitVec.ofNat 8 ((s.group g).chans.get l).condByte)
      { s.dequeue p with freeCount := n }))

/-! ## Requests: the watchdog and the device's records -/

/-- KEEPALIVE reloads the watchdog (R133); SET_WATCHDOG sets the period and unit and reloads it, and
refuses a unit code other than 0 or 1 (R134). -/
def Obligations.WatchdogRequestsReload : Prop :=
  ∀ (s : State) (p : Port) (q : Request),
    (s.Asks p q .supervision 2 [] → exec .keepalive s = .next (s.carryOut p q (.take false []
      { s.dequeue p with watchdog := { s.watchdog with
          remaining := s.watchdog.period,
          state := if s.watchdog.period = 0 then .disabled else .running } })))
    ∧ ∀ b u : Byte, s.Asks p q .fault 4 [b, u] →
      (∀ tu : TickUnit, unitCode tu = u.toNat → exec .setWatchdog s = .next (s.carryOut p q (.take false []
        { s.dequeue p with watchdog :=
            { period := b.toNat, unit := tu, remaining := b.toNat,
              state := if b = 0 then .disabled else .running } })))
      ∧ (2 ≤ u.toNat → exec .setWatchdog s = .next (s.carryOut p q (.refuse .badValue)))

/-- A tick of the watchdog's unit lowers the count of a RUNNING watchdog, and the tick that brings it to 0
expires it; other ticks change nothing (R132). FORCE_WATCHDOG expires a RUNNING watchdog alike and is
refused WRONG_STATE otherwise (R135). The expiry raises one WATCHDOG event in each group that is
neither IDLE nor FAULTED and whose WATCHDOG mode is not OFF, and touches nothing else (R129). That the
row WATCHDOG_EXPIRY is the whole tick that expires it is the model's choice (log entry 2). -/
def Obligations.WatchdogExpires : Prop :=
  (∀ (s : State) (u : TickUnit), s.watchdog.state = .running → s.watchdog.unit = u →
    s.watchdog.remaining = 1 → exec (.watchdogTick u) s = .next s.expireWatchdog
      ∧ exec .watchdogExpiry s = .next s.expireWatchdog)
  ∧ (∀ (s : State) (u : TickUnit), s.watchdog.state = .running → s.watchdog.unit = u →
      2 ≤ s.watchdog.remaining → exec (.watchdogTick u) s =
        .next { s with watchdog := { s.watchdog with remaining := s.watchdog.remaining - 1 } })
  ∧ (∀ (s : State) (u : TickUnit), (s.watchdog.state ≠ .running ∨ s.watchdog.unit ≠ u) →
      exec (.watchdogTick u) s = .next s)
  ∧ (∀ (s : State) (p : Port) (q : Request), s.Asks p q .fault 5 [] →
      (s.watchdog.state = .running →
        exec .forceWatchdog s = .next (s.carryOut p q (.take false [] (s.dequeue p).expireWatchdog)))
      ∧ (s.watchdog.state ≠ .running →
        exec .forceWatchdog s = .next (s.carryOut p q (.refuse .wrongState))))
  ∧ ∀ s : State, s.expireWatchdog.watchdog = { s.watchdog with remaining := 0, state := .expired }
      ∧ (∀ g : GroupIx, s.expireWatchdog.group g =
          if (s.group g).state = .idle ∨ (s.group g).state = .faulted ∨ (s.group g).cfg.watchdog.mode = .off
          then s.group g
          else (s.group g).trip
            { kind := .watchdog, lane := none, mode := (s.group g).cfg.watchdog.mode,
              action := some (s.group g).cfg.watchdog.action, observed := none })
      ∧ s.expireWatchdog = { s with
          watchdog := s.expireWatchdog.watchdog, groups := s.expireWatchdog.groups,
          faultLine := s.expireWatchdog.faultLine, alertLine := s.expireWatchdog.alertLine }

/-- WRITE_PORT_POLICY (R36), SET_RATE (R7), SET_ALERT_MASK (R156, R175) and SET_LEVEL (R26): each replaces
its one value, with the refusals its rule lists in their order; a level above 4096 is stored as 4096 and
answered ADJUSTED. -/
def Obligations.SingleValueWrites : Prop :=
  ∀ (s : State) (p : Port) (q : Request),
    (∀ c a th tl : Byte, s.Asks p q .map 4 [c, a, th, tl] →
      (2 ≤ c.toNat → exec .writePortPolicy s = .next (s.carryOut p q (.refuse .badIndex)))
      ∧ (c.toNat ≤ 1 → (3 ≤ a.toNat ∨ 0xFEF < (th ++ tl).toNat) →
          exec .writePortPolicy s = .next (s.carryOut p q (.refuse .badValue)))
      ∧ (∀ (r : Port) (ad : Admission), portCode r = c.toNat → ad.code = a.toNat →
          (th ++ tl).toNat ≤ 0xFEF → exec .writePortPolicy s = .next (s.carryOut p q (.take false []
            ((s.dequeue p).modPort r fun x =>
              { x with policy := { policy := ad, defaultTag := BitVec.ofNat 12 (th ++ tl).toNat } })))))
    ∧ (∀ h l : Byte, s.Asks p q .setup 7 [h, l] →
      ((∃ g : GroupIx, (s.group g).state ≠ .idle) →
        exec .setRate s = .next (s.carryOut p q (.refuse .wrongState)))
      ∧ ((∀ g : GroupIx, (s.group g).state = .idle) →
        (∀ r : Rate, r.hertz = (h ++ l).toNat →
          exec .setRate s = .next (s.carryOut p q (.take false [] { s.dequeue p with rate := r })))
        ∧ ((∀ r : Rate, r.hertz ≠ (h ++ l).toNat) →
          exec .setRate s = .next (s.carryOut p q (.refuse .badValue)))))
    ∧ (∀ (g : GroupIx) (h l : Byte), s.Asks p q .run 6 [BitVec.ofNat 8 g.val, h, l] →
      exec .setLevel s = .next (s.carryOut p q (.take (decide (4096 < (h ++ l).toNat)) []
        ((s.dequeue p).setGroup g { s.group g with level := min 4096 (h ++ l).toNat }))))
    ∧ ∀ h l : Byte, s.Asks p q .fault 3 [h, l] →
      ((∃ i : Fin 16, (i.val = 0 ∨ 11 ≤ i.val) ∧ (h ++ l).getLsbD i.val = true) →
        exec .setAlertMask s = .next (s.carryOut p q (.refuse .badValue)))
      ∧ ((∀ i : Fin 16, (i.val = 0 ∨ 11 ≤ i.val) → (h ++ l).getLsbD i.val = false) →
        exec .setAlertMask s = .next (s.carryOut p q (.take false []
          { s.dequeue p with alertMask := h ++ l }.driveLines)))

/-- SET_CLASS_ACTION (R161): its LOCKOUT checks come before its BAD_VALUE, and a taken request replaces
the one action. -/
def Obligations.SetClassActionRespectsLockout : Prop :=
  ∀ (s : State) (p : Port) (q : Request) (c th tl a : Byte), s.Asks p q .device 1 [c, th, tl, a] →
    ((2 ≤ c.toNat ∨ (th ++ tl).toNat < 0xFF0 ∨ 0xFF6 < (th ++ tl).toNat) →
      exec .setClassAction s = .next (s.carryOut p q (.refuse .badIndex)))
    ∧ ∀ (r : Port) (k : ReqClass), portCode r = c.toNat → (th ++ tl).toNat = 0xFF0 + k.ix.val →
      ((k = .supervision ∧ a ≠ 0
          ∨ k = .device ∧ a = 2 ∧ (r = p ∨ (s.port (otherPort r)).actionFor .device = .discard)) →
        exec .setClassAction s = .next (s.carryOut p q (.refuse .lockout)))
      ∧ (¬ (k = .supervision ∧ a ≠ 0
          ∨ k = .device ∧ a = 2 ∧ (r = p ∨ (s.port (otherPort r)).actionFor .device = .discard)) →
        (3 ≤ a.toNat → exec .setClassAction s = .next (s.carryOut p q (.refuse .badValue)))
        ∧ ∀ ca : ClassAction, ca.code = a.toNat →
          exec .setClassAction s = .next (s.carryOut p q (.take false []
            ((s.dequeue p).modPort r fun x => { x with actions := x.actions.set k.ix ca }))))

/-- RESET_PART (R168): refused WRONG_STATE while a group is neither IDLE nor FAULTED, BAD_VALUE for an
operand above 1; taken, the reset is in flight and the response carries its landing. -/
def Obligations.ResetPartPutsAResetInFlight : Prop :=
  ∀ (s : State) (p : Port) (q : Request) (b : Byte), s.Asks p q .device 3 [b] →
    ((∃ g : GroupIx, (s.group g).state ≠ .idle ∧ (s.group g).state ≠ .faulted) →
      exec .resetPart s = .next (s.carryOut p q (.refuse .wrongState)))
    ∧ ((∀ g : GroupIx, (s.group g).state = .idle ∨ (s.group g).state = .faulted) →
      (2 ≤ b.toNat → exec .resetPart s = .next (s.carryOut p q (.refuse .badValue)))
      ∧ (b.toNat ≤ 1 → exec .resetPart s =
            .next (s.carryOut p q (.take false [] { s.dequeue p with resetInFlight := true }))
          ∧ ∃ t : State, exec .resetPart s = .next t ∧ t.resetInFlight = true
            ∧ t.groups = s.groups ∧ t.map = s.map
            ∧ (t.port p).responses.map QResponse.landing = (s.port p).responses.map QResponse.landing
                ++ [some (if b = 0 then .reload else .resample)]
            ∧ (t.port (otherPort p)).echoes = (s.port (otherPort p)).echoes))


/-! ## Requests: indices, the map and the set-up records -/

/-- An operand that names no group, channel, port, map index, limit set or class is refused BAD_INDEX,
whatever the operands after it and the state (R158, R159, R176); 0xFF names all groups in CLEAR_FAULTS. -/
def Obligations.BadIndexIsRefusedFirst : Prop :=
  ∀ (k : ReqKind) (s : State) (p : Port) (q : Request), s.nextRequest = some (p, q) → q.kind = some k →
    q.operands.length = k.length →
    (match k with
      | .readMapEntry | .clearMapEntry => 32 ≤ natAt8 q.operands 0
      | .writeMapEntry => 32 ≤ natAt8 q.operands 0 ∨ 4 ≤ natAt8 q.operands 4
      | .writePortPolicy | .readPortPolicy | .readPortStats => 2 ≤ natAt8 q.operands 0
      | .writeProfile => 24 ≤ natAt8 q.operands 0 ∨ 16 ≤ natAt8 q.operands 14
      | .readProfile | .readChannelStats => 24 ≤ natAt8 q.operands 0
      | .writeLimitSet | .readLimitSet => 16 ≤ natAt8 q.operands 0
      | .writeGroupConfig | .readGroupConfig | .genConfig | .arm | .disarm | .start | .stop | .abort
      | .setLevel | .genStart | .readGroupStatus | .readFaults | .readGroupStats =>
        4 ≤ natAt8 q.operands 0
      | .clearFaults => 4 ≤ natAt8 q.operands 0 ∧ natAt8 q.operands 0 ≠ 255
      | .setClassAction => 2 ≤ natAt8 q.operands 0 ∨ natAt16 q.operands 1 < 0xFF0
          ∨ 0xFF6 < natAt16 q.operands 1
      | .identify | .keepalive | .readStatus | .setRate | .setAlertMask | .setWatchdog | .forceWatchdog
      | .readServoStats | .readClassActions | .resetPart => False) →
    exec k.row s = .next (s.carryOut p q (.refuse .badIndex))

/-- WRITE_MAP_ENTRY (R40): IN_USE for a bound entry, CONFLICT with another valid entry of the tag on a
shared port, BAD_VALUE for the role, tag or masks, in that order; taken, the entry is replaced, valid,
with its last trim absent. CLEAR_MAP_ENTRY (R41): IN_USE, else the entry takes the cleared values. -/
def Obligations.MapEntryWritesAndClears : Prop :=
  ∀ (s : State) (p : Port) (q : Request) (i : MapIx),
    (∀ (g : GroupIx) (th tl r lm pm : Byte),
      s.Asks p q .map 1 [BitVec.ofNat 8 i.val, th, tl, r, BitVec.ofNat 8 g.val, lm, pm] →
      ((∃ h : GroupIx, (s.group h).bound = some i) →
        exec .writeMapEntry s = .next (s.carryOut p q (.refuse .inUse)))
      ∧ ((∀ h : GroupIx, (s.group h).bound ≠ some i) →
        ((∃ j : MapIx, j ≠ i ∧ (s.map.get j).valid = true ∧ (s.map.get j).tag.toNat = (th ++ tl).toNat
            ∧ (s.map.get j).portMask.zeroExtend 8 &&& pm ≠ 0) →
          exec .writeMapEntry s = .next (s.carryOut p q (.refuse .conflict)))
        ∧ ((∀ j : MapIx, j ≠ i → (s.map.get j).valid = true → (s.map.get j).tag.toNat = (th ++ tl).toNat →
            (s.map.get j).portMask.zeroExtend 8 &&& pm = 0) →
          ((2 ≤ r.toNat ∨ (th ++ tl).toNat = 0 ∨ 0xFEF < (th ++ tl).toNat ∨ lm = 0 ∨ 64 ≤ lm.toNat
              ∨ pm = 0 ∨ 4 ≤ pm.toNat) →
            exec .writeMapEntry s = .next (s.carryOut p q (.refuse .badValue)))
          ∧ ∀ ro : Role, ro.code = r.toNat → 1 ≤ (th ++ tl).toNat → (th ++ tl).toNat ≤ 0xFEF →
            lm ≠ 0 → lm.toNat < 64 → pm ≠ 0 → pm.toNat < 4 →
            exec .writeMapEntry s = .next (s.carryOut p q (.take false [] { s.dequeue p with
              map := s.map.set i
                { valid := true, tag := BitVec.ofNat 12 (th ++ tl).toNat, role := ro, group := g,
                  laneMask := BitVec.ofNat 6 lm.toNat, portMask := BitVec.ofNat 2 pm.toNat,
                  lastTrim := none } })))))
    ∧ (s.Asks p q .map 3 [BitVec.ofNat 8 i.val] →
      ((∃ h : GroupIx, (s.group h).bound = some i) →
        exec .clearMapEntry s = .next (s.carryOut p q (.refuse .inUse)))
      ∧ ((∀ h : GroupIx, (s.group h).bound ≠ some i) →
        exec .clearMapEntry s = .next (s.carryOut p q (.take false [] { s.dequeue p with
          map := s.map.set i
            { valid := false, tag := 0, role := .primary, group := 0, laneMask := 0, portMask := 0,
              lastTrim := none } }))))

/-- WRITE_PROFILE (R71): WRONG_STATE unless the group is IDLE; BAD_VALUE for the polarity or an Lmin not
below Lmax; taken, the profile is replaced, a Pk outside the range is stored as the nearer bound and
answered ADJUSTED, and y_prev becomes the stored Pk. -/
def Obligations.WriteProfileReplacesTheProfile : Prop :=
  ∀ (s : State) (p : Port) (q : Request) (g : GroupIx) (l : LaneIx) (n : SetIx)
    (gh gl oh ol pol sh sl nh nl xh xl kh kl w : Byte),
    s.Asks p q .setup 1 [BitVec.ofNat 8 (6 * g.val + l.val), gh, gl, oh, ol, pol, sh, sl, nh, nl, xh, xl,
      kh, kl, BitVec.ofNat 8 n.val, w] →
    ((s.group g).state ≠ .idle → exec .writeProfile s = .next (s.carryOut p q (.refuse .wrongState)))
    ∧ ((s.group g).state = .idle →
      ((2 ≤ pol.toNat ∨ (xh ++ xl).toInt ≤ (nh ++ nl).toInt) →
        exec .writeProfile s = .next (s.carryOut p q (.refuse .badValue)))
      ∧ ∀ pl : Polarity, pl.code = pol.toNat → (nh ++ nl).toInt < (xh ++ xl).toInt →
        ∃ pk : Du, pk.toInt = max (nh ++ nl).toInt (min (kh ++ kl).toInt (xh ++ xl).toInt)
          ∧ exec .writeProfile s = .next (s.carryOut p q (.take (decide (pk ≠ kh ++ kl)) []
            ((s.dequeue p).modGroup g fun x => { x with
              chans := x.chans.modify l fun c => { c with
                yPrev := pk
                profile :=
                  { gain := (gh ++ gl).toNat, offset := oh ++ ol, polarity := pl,
                    slew := (sh ++ sl).toNat, lmin := nh ++ nl, lmax := xh ++ xl, park := pk,
                    limitSet := n, weight := w.toNat } } }))))

/-- WRITE_LIMIT_SET (R118): BAD_VALUE for a mode or action code or a PosLo above PosHi; taken in every
state, a deglitch count of 0 is stored as 1, a threshold below 0 as 0 and RETRY with HOLD as RETRY with
PARK, each answered ADJUSTED, and the monitor records of every channel that names the set are cleared. -/
def Obligations.WriteLimitSetReplacesTheSet : Prop :=
  ∀ (s : State) (p : Port) (q : Request) (i : SetIx)
    (ah al bh bl n₁ m₁ a₁ fh fl n₂ m₂ a₂ eh el n₃ m₃ a₃ : Byte),
    s.Asks p q .setup 3 [BitVec.ofNat 8 i.val, ah, al, bh, bl, n₁, m₁, a₁, fh, fl, n₂, m₂, a₂, eh, el,
      n₃, m₃, a₃] →
    ((4 ≤ m₁.toNat ∨ 4 ≤ m₂.toNat ∨ 4 ≤ m₃.toNat ∨ 3 ≤ a₁.toNat ∨ 3 ≤ a₂.toNat ∨ 3 ≤ a₃.toNat
        ∨ (bh ++ bl).toInt < (ah ++ al).toInt) →
      exec .writeLimitSet s = .next (s.carryOut p q (.refuse .badValue)))
    ∧ ∀ (u₁ u₂ u₃ : Mode) (v₁ v₂ v₃ : Action), u₁.code = m₁.toNat → u₂.code = m₂.toNat →
      u₃.code = m₃.toNat → v₁.code = a₁.toNat → v₂.code = a₂.toNat → v₃.code = a₃.toNat →
      (ah ++ al).toInt ≤ (bh ++ bl).toInt →
      ∃ adjusted : Bool,
        (adjusted = true ↔ n₁ = 0 ∨ n₂ = 0 ∨ n₃ = 0 ∨ (fh ++ fl).toInt < 0 ∨ (eh ++ el).toInt < 0
          ∨ u₁ = .retry ∧ v₁ = .hold ∨ u₂ = .retry ∧ v₂ = .hold ∨ u₃ = .retry ∧ v₃ = .hold)
        ∧ exec .writeLimitSet s = .next (s.carryOut p q (.take adjusted [] { s.dequeue p with
          limitSets := s.limitSets.set i
            { posLo := ah ++ al, posHi := bh ++ bl, forceMax := (max 0 (fh ++ fl).toInt).toNat,
              errMax := (max 0 (eh ++ el).toInt).toNat,
              position := { deglitch := max 1 n₁.toNat, mode := u₁,
                            action := if u₁ = .retry ∧ v₁ = .hold then .park else v₁ },
              force := { deglitch := max 1 n₂.toNat, mode := u₂,
                         action := if u₂ = .retry ∧ v₂ = .hold then .park else v₂ },
              error := { deglitch := max 1 n₃.toNat, mode := u₃,
                         action := if u₃ = .retry ∧ v₃ = .hold then .park else v₃ } }
          groups := s.groups.map fun (g : Group) => { g with
            chans := g.chans.map fun c =>
              if c.profile.limitSet = i then
                { c with position := { cond := false, count := 0, tripped := false },
                         force := { cond := false, count := 0, tripped := false },
                         error := { cond := false, count := 0, tripped := false } }
              else c } }))

/-- WRITE_GROUP_CONFIG (R29): WRONG_STATE unless the group is IDLE; BAD_VALUE for a mode, action or
telemetry port code; taken, every number outside its range is stored as the nearer bound and RETRY with
HOLD as RETRY with PARK, each answered ADJUSTED; A becomes 4096 and the decimation counter 0. -/
def Obligations.WriteGroupConfigReplacesTheRecord : Prop :=
  ∀ (s : State) (p : Port) (q : Request) (g : GroupIx) (ops : List Byte),
    s.Asks p q .setup 5 ops → ops.length = 33 → byteAt ops 0 = BitVec.ofNat 8 g.val →
    ((s.group g).state ≠ .idle → exec .writeGroupConfig s = .next (s.carryOut p q (.refuse .wrongState)))
    ∧ ((s.group g).state = .idle →
      ((∃ i ∈ [13, 15, 17, 19, 21], 4 ≤ natAt8 ops i ∨ 3 ≤ natAt8 ops (i + 1)) ∨ 2 ≤ natAt8 ops 32 →
        exec .writeGroupConfig s = .next (s.carryOut p q (.refuse .badValue)))
      ∧ ∀ (m : Fin 5 → Mode) (a : Fin 5 → Action) (tp : Port),
        (∀ i : Fin 5, (m i).code = natAt8 ops (13 + 2 * i.val) ∧ (a i).code = natAt8 ops (14 + 2 * i.val)) →
        portCode tp = natAt8 ops 32 →
        ∃ (adjusted : Bool) (treat : Fin 5 → Treatment),
          (∀ i : Fin 5, treat i =
            { mode := m i, action := if m i = .retry ∧ a i = .hold then .park else a i })
          ∧ (adjusted = true ↔ natAt16 ops 1 = 0 ∨ 4096 < natAt16 ops 1 ∨ natAt16 ops 3 = 0
            ∨ 4096 < natAt16 ops 3 ∨ 64 < natAt8 ops 5 ∨ natAt8 ops 6 = 0 ∨ 8 < natAt8 ops 7
            ∨ natAt8 ops 8 = 0 ∨ natAt16 ops 10 = 0 ∨ 15 < natAt8 ops 12
            ∨ 2147483647 < natAt32 ops 23 ∨ natAt16 ops 27 = 0 ∨ 4096 < natAt16 ops 27
            ∨ 4096 < natAt16 ops 29 ∨ ∃ i : Fin 5, m i = .retry ∧ a i = .hold)
          ∧ exec .writeGroupConfig s = .next (s.carryOut p q (.take adjusted []
            ((s.dequeue p).setGroup g { s.group g with
              att := 4096, telemCount := 0,
              cfg :=
                { fadeStep := max 1 (min 4096 (natAt16 ops 1)),
                  parkStep := max 1 (min 4096 (natAt16 ops 3)),
                  prefill := min 64 (natAt8 ops 5), starveLimit := max 1 (natAt8 ops 6),
                  gapFill := min 8 (natAt8 ops 7), fbLimit := max 1 (natAt8 ops 8),
                  clampLimit := natAt8 ops 9, retryTime := max 1 (natAt16 ops 10),
                  retryLimit := min 15 (natAt8 ops 12), starve := treat 0, seqBreak := treat 1,
                  fbLoss := treat 2, clampPersist := treat 3, watchdog := treat 4,
                  flowLimit := min 2147483647 (natAt32 ops 23),
                  attStep := max 1 (min 4096 (natAt16 ops 27)), attFloor := min 4096 (natAt16 ops 29),
                  telemK := natAt8 ops 31, telemPort := tp } }))))

/-- GEN_CONFIG (R92): WRONG_STATE unless the group is IDLE or ARMED; BAD_VALUE for a pattern or a mask
with bits 6 or 7; taken, the adjustments of the rule are stored and answered ADJUSTED, and the payload
is the operand sequence of what is stored; the runtime part keeps its values. -/
def Obligations.GenConfigReplacesTheConfiguration : Prop :=
  ∀ (s : State) (p : Port) (q : Request) (g : GroupIx) (pt lh ll hh hl sh sl c₂ c₁ c₀ mk : Byte),
    s.Asks p q .setup 8 [BitVec.ofNat 8 g.val, pt, lh, ll, hh, hl, sh, sl, c₂, c₁, c₀, mk] →
    ((s.group g).state ≠ .idle → (s.group g).state ≠ .armed →
      exec .genConfig s = .next (s.carryOut p q (.refuse .wrongState)))
    ∧ ((s.group g).state = .idle ∨ (s.group g).state = .armed →
      ((4 ≤ pt.toNat ∨ 64 ≤ mk.toNat) →
        exec .genConfig s = .next (s.carryOut p q (.refuse .badValue)))
      ∧ ∀ pat : Pattern, pat.code = pt.toNat → mk.toNat < 64 →
        ∃ (adjusted : Bool) (c : GenConfig),
          c.pattern = pat ∧ c.level.toInt = max (-32767) (lh ++ ll).toInt
          ∧ c.period = max (if pat = .ramp then 2 else 1) (min 4096 (hh ++ hl).toNat)
          ∧ c.seed = (if (sh ++ sl).toNat = 0 then 0xACE1#16 else sh ++ sl)
          ∧ c.count = (if c₂ = 0 ∧ c₁ = 0 ∧ c₀ = 0 then none
              else some (65536 * c₂.toNat + 256 * c₁.toNat + c₀.toNat))
          ∧ c.mask = BitVec.ofNat 6 mk.toNat
          ∧ (adjusted = true ↔ (lh ++ ll).toInt = -32768 ∨ (hh ++ hl).toNat = 0
            ∨ 4096 < (hh ++ hl).toNat ∨ pat = .ramp ∧ (hh ++ hl).toNat = 1 ∨ (sh ++ sl).toNat = 0)
          ∧ exec .genConfig s = .next (s.carryOut p q (.take adjusted
            ([BitVec.ofNat 8 g.val, pt] ++ outWord c.level ++ out16 c.period ++ outWord c.seed
              ++ [c₂, c₁, c₀, mk])
            ((s.dequeue p).setGroup g { s.group g with gen := c }))))

/-! ## Requests: run control and fault clearing -/

/-- ARM (R20, R85, R146): BAD_INDEX for an entry that is not a valid PRIMARY entry of the group, then
WRONG_STATE, then INTERLOCK_OPEN; taken, the group stands ARMED with the named binding, or with none for
0xFF, and every value the rule lists set. -/
def Obligations.ArmReadiesAnIdleGroup : Prop :=
  ∀ (s : State) (p : Port) (q : Request) (g : GroupIx) (b : Byte),
    s.Asks p q .run 1 [BitVec.ofNat 8 g.val, b] →
    ((32 ≤ b.toNat ∧ b ≠ 255 ∨ (∃ i : MapIx, i.val = b.toNat ∧ ((s.map.get i).valid = false
        ∨ (s.map.get i).role ≠ .primary ∨ (s.map.get i).group ≠ g))) →
      exec .arm s = .next (s.carryOut p q (.refuse .badIndex)))
    ∧ ∀ target : Option MapIx,
      (target = none ∧ b = 255 ∨ ∃ i : MapIx, target = some i ∧ i.val = b.toNat
        ∧ (s.map.get i).valid = true ∧ (s.map.get i).role = .primary ∧ (s.map.get i).group = g) →
      ((s.group g).state ≠ .idle → exec .arm s = .next (s.carryOut p q (.refuse .wrongState)))
      ∧ ((s.group g).state = .idle →
        (s.interlockOpen = true → exec .arm s = .next (s.carryOut p q (.refuse .interlockOpen)))
        ∧ (s.interlockOpen = false → exec .arm s = .next (s.carryOut p q (.take false []
          ((s.dequeue p).setGroup g { s.group g with
            state := .armed, bound := target, queue := [],
            tallies := { enqueued := 0, played := 0, skipped := 0, flushed := 0 }, expected := none,
            env := 0, att := 4096, retryCount := 0, firstTrip := none, source := .stream,
            genDone := false, sinceFb := 0, streak := 0, action := none, target := none,
            chans := (s.group g).chans.map fun c => { c with d := 0, persist := 0 } })))))

/-- START (R22, R19, R85) and GEN_START (R23, R97): WRONG_STATE, INTERLOCK_OPEN and, for START, NOT_READY,
in that order; taken, each enters FADE_IN with its source, E staying as it is, and GEN_START flushes the
queue and restarts the generator. -/
def Obligations.StartsEnterFadeIn : Prop :=
  ∀ (s : State) (p : Port) (q : Request) (g : GroupIx),
    (s.Asks p q .run 3 [BitVec.ofNat 8 g.val] →
      (((s.group g).state ≠ .armed ∨ (s.group g).bound = none) →
        exec .start s = .next (s.carryOut p q (.refuse .wrongState)))
      ∧ ((s.group g).state = .armed → (s.group g).bound ≠ none →
        (s.interlockOpen = true → exec .start s = .next (s.carryOut p q (.refuse .interlockOpen)))
        ∧ (s.interlockOpen = false →
          ((s.group g).queue.length < (s.group g).cfg.prefill →
            exec .start s = .next (s.carryOut p q (.refuse .notReady)))
          ∧ ((s.group g).cfg.prefill ≤ (s.group g).queue.length →
            exec .start s = .next (s.carryOut p q (.take false []
              ((s.dequeue p).setGroup g { s.group g with
                state := .fadeIn, source := .stream, streak := 0,
                chans := (s.group g).chans.map fun c => { c with persist := 0 } })))))))
    ∧ (s.Asks p q .run 7 [BitVec.ofNat 8 g.val] →
      ((s.group g).state ≠ .armed →
        exec .genStart s = .next (s.carryOut p q (.refuse .wrongState)))
      ∧ ((s.group g).state = .armed →
        (s.interlockOpen = true → exec .genStart s = .next (s.carryOut p q (.refuse .interlockOpen)))
        ∧ (s.interlockOpen = false → exec .genStart s = .next (s.carryOut p q (.take false []
          ((s.dequeue p).setGroup g { s.group g with
            state := .fadeIn, source := .generator, streak := 0, genDone := false, queue := [],
            tallies := { (s.group g).tallies with
              flushed := min ((s.group g).tallies.flushed + (s.group g).queue.length) 4294967295 },
            genRun := { phase := 0, noise := (s.group g).gen.seed, count := 0, ended := false },
            chans := (s.group g).chans.map fun c => { c with persist := 0 } }))))))

/-- DISARM (R21), STOP (R24, R98) and ABORT (R25) in every state of the group: entry into IDLE with the
effects of R16 and R123, into PARKING with those of R18, into FAULTED with those of R17, or no effect;
and WRONG_STATE in the states the rules refuse. -/
def Obligations.RunsEndByRequest : Prop :=
  ∀ (s : State) (p : Port) (q : Request) (g : GroupIx) (x rested faulted parked : Group),
    x = s.group g →
    rested = { x with
      state := .idle, bound := none, source := .stream, env := 0, action := none, target := none,
      queue := [],
      tallies := { x.tallies with flushed := min (x.tallies.flushed + x.queue.length) 4294967295 },
      chans := x.chans.map fun c => { c with
        trim := 0, position := { cond := false, count := 0, tripped := false },
        force := { cond := false, count := 0, tripped := false },
        error := { cond := false, count := 0, tripped := false } } } →
    faulted = { x with
      state := .faulted, env := 0, target := some .faulted, queue := [],
      tallies := { x.tallies with flushed := min (x.tallies.flushed + x.queue.length) 4294967295 },
      chans := x.chans.map fun c => { c with
        position := { cond := false, count := 0, tripped := false },
        force := { cond := false, count := 0, tripped := false },
        error := { cond := false, count := 0, tripped := false } } } →
    parked = { x with
      state := .parking, env := 4096, action := some .park, target := some .idle,
      chans := x.chans.map fun c => { c with x := c.yPrev } } →
    (s.Asks p q .run 2 [BitVec.ofNat 8 g.val] →
      (x.state = .armed → exec .disarm s =
        .next (s.carryOut p q (.take false [] ((s.dequeue p).setGroup g rested))))
      ∧ (x.state ≠ .armed → exec .disarm s = .next (s.carryOut p q (.refuse .wrongState))))
    ∧ (s.Asks p q .run 4 [BitVec.ofNat 8 g.val] →
      (x.state = .fadeIn ∨ x.state = .run → exec .stop s =
        .next (s.carryOut p q (.take false [] ((s.dequeue p).setGroup g { x with
          state := .fadeOut,
          genRun := { x.genRun with
            ended := x.genRun.ended || decide (x.source = .generator) } }))))
      ∧ (x.state = .fadeOut → exec .stop s = .next (s.carryOut p q (.take false [] (s.dequeue p))))
      ∧ (x.state ∉ [GState.fadeIn, .run, .fadeOut] →
        exec .stop s = .next (s.carryOut p q (.refuse .wrongState))))
    ∧ (s.Asks p q .run 5 [BitVec.ofNat 8 g.val] →
      (x.state ∈ [GState.fadeIn, .run, .fadeOut] → exec .abort s =
        .next (s.carryOut p q (.take false [] ((s.dequeue p).setGroup g parked))))
      ∧ (x.state = .armed → exec .abort s =
        .next (s.carryOut p q (.take false [] ((s.dequeue p).setGroup g rested))))
      ∧ (x.state = .retryWait → exec .abort s =
        .next (s.carryOut p q (.take false [] ((s.dequeue p).setGroup g faulted))))
      ∧ (x.state = .parking → exec .abort s = .next (s.carryOut p q (.take false [] (s.dequeue p))))
      ∧ (x.state ∈ [GState.idle, .held, .faulted] →
        exec .abort s = .next (s.carryOut p q (.refuse .wrongState))))

/-- CLEAR_FAULTS (R152, R153, R175), of one group or, for 0xFF, of all four: a member whose condition is
absent (R130) is removed and the others keep their class; then a FAULTED group with no ACTION member
enters IDLE, and a HELD one enters PARKING toward IDLE from its held outputs; nothing else of a group
moves. The answer is OK, with every group's state and set as they stand at the end. -/
def Obligations.ClearFaultsRemovesAbsentKinds : Prop :=
  ∀ (s : State) (p : Port) (q : Request) (b : Byte), s.Asks p q .fault 2 [b] → b = 255 ∨ b.toNat < 4 →
    ∃ t : State,
      exec .clearFaults s = .next (s.carryOut p q (.take false
        (groupList.flatMap fun g => [BitVec.ofNat 8 (t.group g).state.code]
          ++ outWord (t.group g).actionSet ++ outWord (t.group g).reportSet) t))
      ∧ t = { s.dequeue p with groups := t.groups, faultLine := t.faultLine, alertLine := t.alertLine }
      ∧ t.LineLaw
      ∧ (∀ g : GroupIx, b ≠ 255 → b.toNat ≠ g.val → t.group g = s.group g)
      ∧ ∀ (g : GroupIx) (present : Kind → Prop), b = 255 ∨ b.toNat = g.val →
        (∀ k : Kind, present k ↔ match k with
          | .position => ∃ l : LaneIx, ((s.group g).chans.get l).position.cond = true
          | .force => ∃ l : LaneIx, ((s.group g).chans.get l).force.cond = true
          | .error => ∃ l : LaneIx, ((s.group g).chans.get l).error.cond = true
          | .fbLoss => (s.group g).cfg.fbLimit < (s.group g).sinceFb
          | .watchdog => s.watchdog.state = .expired
          | .interlock => s.interlockOpen = true
          | .flow => (s.group g).att < 4096
          | .starve | .seqBreak | .clampPersist => False) →
        (∀ k : Kind, (present k → (t.group g).classOf k = (s.group g).classOf k)
          ∧ (¬ present k → (t.group g).classOf k = none))
        ∧ ((∃ k : Kind, present k ∧ (s.group g).classOf k = some .action)
            ∨ (s.group g).state ≠ .faulted ∧ (s.group g).state ≠ .held →
          t.group g = { s.group g with latched := (t.group g).latched })
        ∧ ((∀ k : Kind, present k → (s.group g).classOf k ≠ some .action) → (s.group g).state = .faulted →
          t.group g = { s.group g with
            latched := (t.group g).latched, state := .idle, bound := none, source := .stream, env := 0,
            action := none, target := none, queue := [],
            tallies := { (s.group g).tallies with
              flushed := min ((s.group g).tallies.flushed + (s.group g).queue.length) 4294967295 },
            chans := (s.group g).chans.map fun c => { c with
              trim := 0, position := { cond := false, count := 0, tripped := false },
              force := { cond := false, count := 0, tripped := false },
              error := { cond := false, count := 0, tripped := false } } })
        ∧ ((∀ k : Kind, present k → (s.group g).classOf k ≠ some .action) → (s.group g).state = .held →
          t.group g = { s.group g with
            latched := (t.group g).latched, state := .parking, env := 4096, action := some .park,
            target := some .idle, chans := (s.group g).chans.map fun c => { c with x := c.yPrev } })

/-! ## Playouts -/

/-- Every playout, in every state, advances the output sequence by 1, counts in PLAYOUTS and hands the
servo link one command frame of 18 bytes: the group, the enable flag (clear in IDLE and while INTERLOCK
is latched), the advanced sequence and the six outputs, which stand as y_prev afterwards (R3, R4, R6,
R11, R103, R183, R187). It touches no other group and no record that a request writes. -/
def Obligations.PlayoutEmitsOneCommandFrame : Prop :=
  ∀ (s : State) (g : GroupIx), ∃ t : State, exec (.playout g) s = .next t
    ∧ (t.group g).outSeq = (s.group g).outSeq + 1
    ∧ (t.group g).ctr.playouts = min ((s.group g).ctr.playouts + 1) 4294967295
    ∧ (∃ body : List Byte, t.servoSent = s.servoSent ++ [body ++ outWord (crc body)] ∧ body.length = 16
      ∧ body = [BitVec.ofNat 8 g.val,
          if (s.group g).state = .idle ∨ (s.group g).classOf .interlock ≠ none then 0#8 else 1#8]
        ++ outWord ((s.group g).outSeq + 1)
        ++ lanes.flatMap fun l => outWord ((t.group g).chans.get l).yPrev)
    ∧ (∀ h : GroupIx, h ≠ g → t.group h = s.group h)
    ∧ t = { s with
        servoSent := t.servoSent, groups := t.groups, portA := t.portA, portB := t.portB,
        faultLine := t.faultLine, alertLine := t.alertLine }
    ∧ (∀ p : Port, t.port p = { s.port p with
        slots := (t.port p).slots, sending := (t.port p).sending, nextGroup := (t.port p).nextGroup,
        ctr := { (s.port p).ctr with telemetryReplaced := (t.port p).ctr.telemetryReplaced } })
    ∧ (t.group g).cfg = (s.group g).cfg ∧ (t.group g).gen = (s.group g).gen
    ∧ (t.group g).level = (s.group g).level ∧ (t.group g).lastEcho = (s.group g).lastEcho
    ∧ ∀ l : LaneIx, ((t.group g).chans.get l).profile = ((s.group g).chans.get l).profile

/-- Step 3 of a playout (R10), on `x.stepped`, the group after steps 1 to 3: E rises or falls by FS toward
Lv and not beyond it in FADE_IN and RUN, falls by FS in FADE_OUT and by PS in PARKING, not below 0, and
stands elsewhere; it remains within 0 to 4096; and step 4 uses the stepped value. The combined factor
(R77): F = floor((E × A + 2048) / 4096), within 0 to 4096 for every E and A of their ranges; 4096 when
both are, 0 when either is 0, A whenever E is 4096 and E whenever A is; the rule's own values; and a
live playout blends by F of the stepped E and of A as the last playout left it. -/
def Obligations.EnvelopeStepsAndFormsTheFactor : Prop :=
  (∀ x : Group,
    (x.state = .fadeIn ∨ x.state = .run →
      (x.env < x.level → x.stepped.env = min (x.env + x.cfg.fadeStep) x.level)
      ∧ (x.level < x.env → x.stepped.env = max (x.env - x.cfg.fadeStep) x.level)
      ∧ (x.env = x.level → x.stepped.env = x.env))
    ∧ (x.state = .fadeOut → x.stepped.env = x.env - x.cfg.fadeStep)
    ∧ (x.state = .parking → x.stepped.env = x.env - x.cfg.parkStep)
    ∧ (x.state ∈ [GState.idle, .armed, .held, .retryWait, .faulted] → x.stepped.env = x.env)
    ∧ (x.env ≤ 4096 → x.level ≤ 4096 → x.stepped.env ≤ 4096)
    ∧ x.formed.env = x.stepped.env
    ∧ (x.state.live = true → ∀ l : LaneIx, x.formed.chans.get l =
        (x.stepped.chans.get l).live ((x.stepped.env * x.att + 2048) / 4096))
    ∧ (x.state = .parking → ∀ l : LaneIx,
        x.formed.chans.get l = (x.stepped.chans.get l).parking x.stepped.env))
  ∧ (∀ e a : Nat, combinedFactor e a = (e * a + 2048) / 4096
    ∧ (e ≤ 4096 → a ≤ 4096 → combinedFactor e a ≤ 4096)
    ∧ combinedFactor 4096 4096 = 4096 ∧ combinedFactor 0 a = 0 ∧ combinedFactor e 0 = 0
    ∧ combinedFactor 4096 a = a ∧ combinedFactor e 4096 = e)
  ∧ combinedFactor 2048 4096 = 2048 ∧ combinedFactor 2048 2048 = 1024 ∧ combinedFactor 1 2048 = 1
  ∧ combinedFactor 1 2047 = 0 ∧ combinedFactor 3000 3968 = 2906
  ∧ ∀ x : Group, x.state.live = true → ∀ l : LaneIx, x.formed.chans.get l =
      (x.stepped.chans.get l).live (combinedFactor x.stepped.env x.att)

/-- Step 4 of a playout (R11, R73 to R83, R85 to R88): every channel's output by the state the playout
began in, with its two flags, its two clamp counters and its persistence counter; and A as the flow
monitor leaves it. `x.sourced` is the group after step 2, whose d the live pipeline reads. Stages 2 and
5 round half away from zero, and `rha` is R74's operator, with the rule's own values. -/
def Obligations.OutputsFollowTheState : Prop :=
  (∀ (n : Int) (m : Nat), 0 < m → m % 2 = 0 → rha n m = n.sign * ((n.natAbs + m / 2) / m : Nat)
    ∧ rha (-n) m = -rha n m)
  ∧ rha 8192 16384 = 1 ∧ rha (-8192) 16384 = -1 ∧ rha 8191 16384 = 0 ∧ rha 24576 16384 = 2
  ∧ rha (-24576) 16384 = -2 ∧ rha (-28416000) 4096 = -6938
  ∧ ∀ (s : State) (g : GroupIx) (x : Group), x = s.group g → ∃ t : State, exec (.playout g) s = .next t
    ∧ (∀ (l : LaneIx) (c c' : Channel) (pk s1 s2 s3 s4 s5 s6 y : Int),
      c = x.sourced.chans.get l → c' = (t.group g).chans.get l → pk = c.profile.park.toInt →
      s1 = c.d.toInt + c.trim.toInt → s2 = rha (s1 * c.profile.gain) 16384 →
      s3 = (if c.profile.polarity = .normal then s2 else -s2) → s4 = s3 + c.profile.offset.toInt →
      (x.state.live = true →
        s5 = pk + rha ((s4 - pk) * ((x.stepped.env * x.att + 2048) / 4096 : Nat)) 4096) →
      (x.state = .parking → s5 = pk + rha ((c.x.toInt - pk) * x.stepped.env) 4096) →
      s6 = (if c.profile.slew = 0 then s5
        else clampInt (c.yPrev.toInt - c.profile.slew) (c.yPrev.toInt + c.profile.slew) s5) →
      y = clampInt c.profile.lmin.toInt c.profile.lmax.toInt s6 →
      (x.state.live = true ∨ x.state = .parking →
        c'.yPrev.toInt = y ∧ (c'.slewFlag = true ↔ s6 ≠ s5) ∧ (c'.rangeFlag = true ↔ y ≠ s6)
        ∧ c'.slewClamps = (if s6 = s5 then c.slewClamps else min (c.slewClamps + 1) 4294967295)
        ∧ c'.rangeClamps = (if y = s6 then c.rangeClamps else min (c.rangeClamps + 1) 4294967295))
      ∧ (x.state.live = true → c'.persist =
          if s6 = s5 ∧ y = s6 then 0 else min (c.persist + 1) 65535)
      ∧ (x.state = .held → c'.yPrev = c.x)
      ∧ (x.state ∈ [GState.idle, .armed, .retryWait, .faulted] → c'.yPrev = c.profile.park)
      ∧ (x.state ∈ [GState.idle, .armed, .held, .retryWait, .faulted] →
          c'.slewFlag = false ∧ c'.rangeFlag = false ∧ c'.slewClamps = c.slewClamps
          ∧ c'.rangeClamps = c.rangeClamps)
      ∧ (x.state ∈ [GState.idle, .armed, .parking, .held, .faulted] → c'.persist = c.persist))
    ∧ (x.state.live = false → (t.group g).att = x.att)
    ∧ (x.state.live = true → ∀ demand : Nat,
        demand = (lanes.map fun l => (x.chans.get l).profile.weight
          * (((t.group g).chans.get l).yPrev.toInt - (x.chans.get l).yPrev.toInt).natAbs).sum →
        (x.cfg.flowLimit = 0 → (t.group g).att = x.att)
        ∧ (x.cfg.flowLimit ≠ 0 → x.cfg.flowLimit < demand →
            (t.group g).att = max x.cfg.attFloor (x.att - x.cfg.attStep)
            ∧ (t.group g).classOf .flow ≠ none)
        ∧ (x.cfg.flowLimit ≠ 0 → demand ≤ x.cfg.flowLimit - x.cfg.flowLimit / 8 →
            (t.group g).att = min 4096 (x.att + x.cfg.attStep))
        ∧ (x.cfg.flowLimit - x.cfg.flowLimit / 8 < demand → demand ≤ x.cfg.flowLimit →
            (t.group g).att = x.att))

/-- The slew bound (R79, R80): at a live, PARKING or HELD playout, a channel with a slew limit S that is
not 0 moves its output by at most S, whatever the sample, the trim and the envelope. The playouts of the
other states output Pk, and the first of them after a NULL action or an interlock trip may carry any
change: R79's own exception. -/
def Obligations.SlewBoundsLiveParkingAndHeldMoves : Prop :=
  ∀ (s : State) (g : GroupIx) (l : LaneIx), (s.group g).OutputLaw →
    (s.group g).state ∈ [GState.fadeIn, .run, .fadeOut, .parking, .held] →
    ((s.group g).chans.get l).profile.slew ≠ 0 →
    ∃ t : State, exec (.playout g) s = .next t
      ∧ (((t.group g).chans.get l).yPrev.toInt - ((s.group g).chans.get l).yPrev.toInt).natAbs
        ≤ ((s.group g).chans.get l).profile.slew

/-- Step 2 of a playout with no generator at work (R9, R62 to R65): a live playout takes the queue's head
or underruns, PARKING, HELD and RETRY_WAIT skip the head, and IDLE, ARMED and FAULTED leave it. The
queue is named as it stands unless the playout ends in a state whose entry flushes it. -/
def Obligations.PlayoutsTakeSkipOrUnderrun : Prop :=
  ∀ (s : State) (g : GroupIx) (x : Group), x = s.group g → ∃ t : State, exec (.playout g) s = .next t
    ∧ (x.state.live = true → x.source = .stream →
      (∀ (e : QEntry) (rest : List QEntry), x.queue = e :: rest →
        (t.group g).tallies.played = min (x.tallies.played + 1) 4294967295 ∧ (t.group g).streak = 0
        ∧ (t.group g).tallies.skipped = x.tallies.skipped ∧ (t.group g).ctr.underruns = x.ctr.underruns
        ∧ ((t.group g).state ∈ [GState.fadeIn, .run, .fadeOut, .parking, .held] → (t.group g).queue = rest)
        ∧ ∀ l : LaneIx, ((t.group g).chans.get l).d = (e.slots.get l).getD (x.chans.get l).d)
      ∧ (x.queue = [] →
        (t.group g).ctr.underruns = min (x.ctr.underruns + 1) 4294967295
        ∧ (t.group g).tallies.played = x.tallies.played ∧ (t.group g).tallies.skipped = x.tallies.skipped
        ∧ ((t.group g).state ∈ [GState.fadeIn, .run, .fadeOut, .parking, .held] →
          (t.group g).streak = min (x.streak + 1) 65535)
        ∧ ∀ l : LaneIx, ((t.group g).chans.get l).d = (x.chans.get l).d))
    ∧ (x.state ∈ [GState.parking, .held, .retryWait] →
      (∀ (e : QEntry) (rest : List QEntry), x.queue = e :: rest →
        (t.group g).tallies.skipped = min (x.tallies.skipped + 1) 4294967295
        ∧ ((t.group g).state ∈ [GState.fadeIn, .parking, .held, .retryWait] → (t.group g).queue = rest))
      ∧ (x.queue = [] → (t.group g).tallies.skipped = x.tallies.skipped ∧ (t.group g).queue = [])
      ∧ (t.group g).tallies.played = x.tallies.played ∧ (t.group g).ctr.underruns = x.ctr.underruns
      ∧ ∀ l : LaneIx, ((t.group g).chans.get l).d = (x.chans.get l).d)
    ∧ (x.state ∈ [GState.idle, .armed, .faulted] →
      (t.group g).tallies.skipped = x.tallies.skipped ∧ (t.group g).tallies.played = x.tallies.played
      ∧ (t.group g).ctr.underruns = x.ctr.underruns ∧ (t.group g).streak = x.streak
      ∧ ((t.group g).state = x.state → (t.group g).queue = x.queue)
      ∧ ∀ l : LaneIx, ((t.group g).chans.get l).d = (x.chans.get l).d)
    ∧ (t.group g).tallies.enqueued = x.tallies.enqueued

/-- A generated playout (R93 to R97, R100): the lanes of the mask take the pattern's sample and the others 0,
the phase and the noise register advance, the count advances in FADE_IN and RUN while the pattern has
not ended, the queue and its tallies are left alone but for the flush of a state that the playout
ends in, and neither an underrun nor the underrun streak counts (R93, R100). Where NOISE has no phase of its own and the
other patterns no use of the register, the model leaves that field as it stands (log entry 9). -/
def Obligations.GeneratedPlayoutsFollowThePattern : Prop :=
  ∀ (s : State) (g : GroupIx) (x : Group) (mag v : Int), x = s.group g → x.state.live = true →
    x.source = .generator → mag = (x.gen.level.toInt.natAbs : Int) →
    v = (match x.gen.pattern with
      | .constant => x.gen.level.toInt
      | .square => if x.genRun.phase < x.gen.period then mag else -mag
      | .ramp => mag - 2 * mag * x.genRun.phase / x.gen.period
      | .noise => Int.tdiv (mag * ((x.genRun.noise.toNat : Int) - 32768)) 32768) →
    ∃ t : State, exec (.playout g) s = .next t
      ∧ (∀ l : LaneIx, ((t.group g).chans.get l).d =
          (if x.gen.mask.getLsbD l.val then BitVec.ofInt 16 v else 0)
        ∧ (x.gen.mask.getLsbD l.val = true → -32768 ≤ v → v ≤ 32767 →
            ((t.group g).chans.get l).d.toInt = v))
      ∧ (t.group g).genRun.phase = (match x.gen.pattern with
        | .constant | .noise => x.genRun.phase
        | .square => if x.genRun.phase + 1 = 2 * x.gen.period then 0 else x.genRun.phase + 1
        | .ramp => if x.genRun.phase + 1 = x.gen.period then 0 else x.genRun.phase + 1)
      ∧ (t.group g).genRun.noise = (if x.gen.pattern ≠ .noise then x.genRun.noise
        else if x.genRun.noise.getLsbD 0 then (x.genRun.noise >>> 1) ^^^ 0xB400#16
        else x.genRun.noise >>> 1)
      ∧ (t.group g).genRun.count = (if x.state ≠ .fadeOut ∧ x.genRun.ended = false
        then min (x.genRun.count + 1) 16777215 else x.genRun.count)
      ∧ (t.group g).ctr.underruns = x.ctr.underruns ∧ (t.group g).tallies.played = x.tallies.played
      ∧ (t.group g).tallies.skipped = x.tallies.skipped
      ∧ (t.group g).tallies.enqueued = x.tallies.enqueued
      ∧ ((t.group g).state ∈ [GState.fadeIn, .run, .fadeOut, .parking, .held]
          ∨ x.state ≠ .fadeOut ∧ (t.group g).state = .retryWait →
        (t.group g).queue = x.queue ∧ (t.group g).tallies.flushed = x.tallies.flushed)
      ∧ ((t.group g).state ∈ [GState.armed, .faulted] → (t.group g).queue = []
        ∧ (t.group g).tallies.flushed = min (x.tallies.flushed + x.queue.length) 4294967295)
      ∧ (x.state ≠ .fadeOut ∨ (t.group g).state ∈ [GState.fadeOut, .parking, .held] →
        (t.group g).streak = x.streak)

/-- The completions of step 6 (R12 to R14, R97, R98, R145, R149, R150), at a playout that raises no monitor
event: where each state goes, and what each entry sets. -/
def Obligations.PlayoutsCompleteTimedOperations : Prop :=
  ∀ (s : State) (g : GroupIx) (x : Group) (e : Nat), x = s.group g → e = x.stepped.env →
    x.playoutEvents = [] → ∃ t : State, exec (.playout g) s = .next t
    ∧ (x.state ∈ [GState.idle, .armed, .held, .faulted] →
      (t.group g).state = x.state ∧ (t.group g).env = x.env)
    ∧ (x.state = .fadeIn ∨ x.state = .run → (t.group g).env = e
      ∧ (x.source = .stream ∨ x.genRun.ended = false ∧ x.gen.count ≠ some (x.genRun.count + 1) →
        (t.group g).state = (if e = x.level then .run else x.state) ∧ (t.group g).genDone = x.genDone)
      ∧ (x.source = .generator → x.genRun.ended = true →
        (t.group g).state = .fadeOut ∧ (t.group g).genDone = x.genDone)
      ∧ (x.source = .generator → x.genRun.ended = false → x.genRun.count < 16777215 →
        x.gen.count = some (x.genRun.count + 1) →
        (t.group g).state = .fadeOut ∧ (t.group g).genDone = true ∧ (t.group g).genRun.ended = true))
    ∧ (x.state = .fadeOut →
      ((e = 0 ∧ ∀ l : LaneIx, ((t.group g).chans.get l).yPrev = (x.chans.get l).profile.park) →
        (t.group g).state = .armed ∧ (t.group g).env = 0 ∧ (t.group g).queue = []
        ∧ (t.group g).expected = none ∧ (t.group g).source = .stream ∧ (t.group g).streak = 0
        ∧ (t.group g).bound = x.bound ∧ (t.group g).latched = x.latched)
      ∧ ((e ≠ 0 ∨ ∃ l : LaneIx, ((t.group g).chans.get l).yPrev ≠ (x.chans.get l).profile.park) →
        (t.group g).state = .fadeOut ∧ (t.group g).env = e))
    ∧ (x.state = .parking →
      ((e = 0 ∧ ∀ l : LaneIx, ((t.group g).chans.get l).yPrev = (x.chans.get l).profile.park) →
        (t.group g).env = 0
        ∧ (x.target = some .idle → (t.group g).state = .idle ∧ (t.group g).bound = none
          ∧ (t.group g).source = .stream ∧ (t.group g).queue = [] ∧ (t.group g).action = none
          ∧ (t.group g).target = none ∧ ∀ l : LaneIx, ((t.group g).chans.get l).trim = 0)
        ∧ (x.target = some .retryWait → (t.group g).state = .retryWait
          ∧ (t.group g).retryCount = x.retryCount + 1 ∧ (t.group g).retryTimer = x.cfg.retryTime
          ∧ (t.group g).bound = x.bound ∧ (t.group g).source = x.source)
        ∧ (x.target = some .faulted → (t.group g).state = .faulted ∧ (t.group g).queue = []
          ∧ (t.group g).bound = x.bound ∧ (t.group g).source = x.source))
      ∧ ((e ≠ 0 ∨ ∃ l : LaneIx, ((t.group g).chans.get l).yPrev ≠ (x.chans.get l).profile.park) →
        (t.group g).state = .parking ∧ (t.group g).env = e))
    ∧ (x.state = .retryWait →
      (2 ≤ x.retryTimer → (t.group g).state = .retryWait ∧ (t.group g).retryTimer = x.retryTimer - 1
        ∧ (t.group g).retryCount = x.retryCount)
      ∧ (x.retryTimer = 1 → ∀ since : Group,
        since = { x with sinceFb := min (x.sinceFb + 1) 65535 } →
        ((∃ k : Kind, x.classOf k = some .action ∧ since.present s.wdExpired s.interlockOpen k = true) →
          (t.group g).state = .retryWait ∧ (t.group g).retryTimer = x.cfg.retryTime
          ∧ (t.group g).retryCount = x.retryCount ∧ (t.group g).latched = x.latched)
        ∧ ((∀ k : Kind, x.classOf k = some .action →
              since.present s.wdExpired s.interlockOpen k = false) →
          (t.group g).state = (match x.resume with | .armed => .armed | .fadeIn => .fadeIn)
          ∧ (t.group g).env = x.env ∧ (t.group g).streak = 0 ∧ (t.group g).action = none
          ∧ (t.group g).target = none ∧ (t.group g).retryCount = x.retryCount
          ∧ (x.resume = .fadeIn → ∀ l : LaneIx, ((t.group g).chans.get l).persist = 0)
          ∧ ∀ k : Kind, (t.group g).classOf k =
              if x.classOf k = some .action then some .report else x.classOf k)))
    ∧ (t.group g).sinceFb = (if x.state = .idle ∨ x.state = .faulted then x.sinceFb
        else min (x.sinceFb + 1) 65535)

/-- The six rows that name what comes about inside a playout (R64, R85, R97, R127, R149, R179, R180): where
it comes about the command is that playout, with what the event itself leaves; elsewhere the command
does nothing. That each row is its whole playout is the model's choice (log entry 2). -/
def Obligations.PlayoutEventRows : Prop :=
  ∀ (s : State) (g : GroupIx) (x : Group), x = s.group g → ∃ t : State, exec (.playout g) s = .next t
    ∧ ((x.state.live = true ∧ x.source = .stream ∧ x.queue = [] ∧ x.streak < 65535
          ∧ x.streak + 1 = x.cfg.starveLimit →
        exec (.starveEvent g) s = .next t
        ∧ (x.cfg.starve.mode = .latch ∨ x.cfg.starve.mode = .retry →
            (t.group g).classOf .starve = some .action)
        ∧ (x.cfg.starve.mode = .report → (t.group g).classOf .starve ≠ none))
      ∧ (¬ (x.state.live = true ∧ x.source = .stream ∧ x.queue = [] ∧ x.streak < 65535
          ∧ x.streak + 1 = x.cfg.starveLimit) → exec (.starveEvent g) s = .next s))
    ∧ (∀ l : LaneIx, (x.state.live = true ∧ x.cfg.clampLimit ≠ 0 ∧ (x.chans.get l).persist < 65535
          ∧ (((t.group g).chans.get l).slewFlag = true ∨ ((t.group g).chans.get l).rangeFlag = true)
          ∧ (x.chans.get l).persist + 1 = x.cfg.clampLimit →
        exec (.clampPersistEvent g l) s = .next t
        ∧ (x.cfg.clampPersist.mode = .latch ∨ x.cfg.clampPersist.mode = .retry →
            (t.group g).classOf .clampPersist = some .action)
        ∧ (x.cfg.clampPersist.mode = .report → (t.group g).classOf .clampPersist ≠ none))
      ∧ (¬ (x.state.live = true ∧ x.cfg.clampLimit ≠ 0 ∧ (x.chans.get l).persist < 65535
          ∧ (((t.group g).chans.get l).slewFlag = true ∨ ((t.group g).chans.get l).rangeFlag = true)
          ∧ (x.chans.get l).persist + 1 = x.cfg.clampLimit) →
        exec (.clampPersistEvent g l) s = .next s))
    ∧ ((x.state ≠ .idle ∧ x.state ≠ .faulted ∧ x.sinceFb = x.cfg.fbLimit ∧ x.sinceFb < 65535 →
        exec (.fbLossEvent g) s = .next t ∧ (t.group g).sinceFb = x.cfg.fbLimit + 1
        ∧ ((t.group g).state ≠ .idle →
          (x.cfg.fbLoss.mode = .latch ∨ x.cfg.fbLoss.mode = .retry →
            (t.group g).classOf .fbLoss = some .action)
          ∧ (x.cfg.fbLoss.mode = .report → (t.group g).classOf .fbLoss ≠ none)))
      ∧ (¬ (x.state ≠ .idle ∧ x.state ≠ .faulted ∧ x.sinceFb = x.cfg.fbLimit ∧ x.sinceFb < 65535) →
        exec (.fbLossEvent g) s = .next s))
    ∧ (((x.state = .fadeIn ∨ x.state = .run) ∧ x.source = .generator ∧ x.genRun.ended = false
          ∧ x.genRun.count < 16777215 ∧ x.gen.count = some (x.genRun.count + 1) →
        exec (.burstCompletion g) s = .next t ∧ (t.group g).genDone = true
        ∧ (t.group g).genRun.ended = true ∧ (t.group g).genRun.count = x.genRun.count + 1
        ∧ (x.playoutEvents = [] → (t.group g).state = .fadeOut))
      ∧ (¬ ((x.state = .fadeIn ∨ x.state = .run) ∧ x.source = .generator ∧ x.genRun.ended = false
          ∧ x.genRun.count < 16777215 ∧ x.gen.count = some (x.genRun.count + 1)) →
        exec (.burstCompletion g) s = .next s))
    ∧ ((x.state = .retryWait ∧ x.retryTimer = 1 → exec (.retryTimerExpiry g) s = .next t
        ∧ (x.playoutEvents = [] →
          (t.group g).state = .retryWait ∧ (t.group g).retryTimer = x.cfg.retryTime
          ∨ (t.group g).state ∈ [GState.armed, .fadeIn] ∧ (t.group g).target = none))
      ∧ (x.state ≠ .retryWait ∨ 2 ≤ x.retryTimer → exec (.retryTimerExpiry g) s = .next s))
    ∧ ((x.cfg.telemK ≠ 0 ∧ x.telemCount + 1 = x.cfg.telemK →
        exec (.telemetryRecord g) s = .next t ∧ (t.group g).telemCount = 0
        ∧ ∃ (f : UpFrame) (r : Group), r = s.settledGroup g
          ∧ f = { tag := 0xFFE, kind := .telemetry, unit := s.straps.unitId, origin := .a,
                  ident := BitVec.ofNat 8 g.val, status := BitVec.ofNat 8 r.state.code,
                  payload := outWord (x.outSeq + 1) ++ out16 r.env ++ out16 r.att ++ out16 x.level
                    ++ [BitVec.ofNat 8 r.queue.length, BitVec.ofNat 8 r.retryCount]
                    ++ outWord r.latchedSet
                    ++ lanes.flatMap fun l => outWord ((t.group g).chans.get l).yPrev }
          ∧ ((s.port x.cfg.telemPort).sending ≠ none →
            (t.port x.cfg.telemPort).slots.get g = some f
            ∧ (t.port x.cfg.telemPort).ctr.telemetryReplaced =
              (if (s.port x.cfg.telemPort).slots.get g = none
                then (s.port x.cfg.telemPort).ctr.telemetryReplaced
                else min ((s.port x.cfg.telemPort).ctr.telemetryReplaced + 1) 4294967295))
          ∧ ((s.port x.cfg.telemPort).sending = none → (s.port x.cfg.telemPort).SendLaw →
            (t.port x.cfg.telemPort).sending = some { frame := f, source := .detached, landing := none }
            ∧ (t.port x.cfg.telemPort).slots.get g = none))
      ∧ (¬ (x.cfg.telemK ≠ 0 ∧ x.telemCount + 1 = x.cfg.telemK) →
        exec (.telemetryRecord g) s = .next s))

/-! ## Feedback, monitors and trips -/

/-- A feedback frame (R105 to R110): dropped and counted at the first test it fails; accepted, the echo is
recorded and the playouts-since-feedback count returns to 0 in every state, and in IDLE and FAULTED
nothing else of the group moves. Only the named group and the lines can move. -/
def Obligations.FeedbackIsJudgedInOrder : Prop :=
  ∀ (s : State) (bs : List Byte),
    (crcOk bs = false → exec (.feedbackFrame bs) s = .next { s with servo := { s.servo with
      framesReceived := min (s.servo.framesReceived + 1) 4294967295,
      checkErrors := min (s.servo.checkErrors + 1) 4294967295 } })
    ∧ (crcOk bs = true → (bs.length ≠ 42 ∨ 4 ≤ natAt8 bs 0) →
      exec (.feedbackFrame bs) s = .next { s with servo := { s.servo with
        framesReceived := min (s.servo.framesReceived + 1) 4294967295,
        malformed := min (s.servo.malformed + 1) 4294967295 } })
    ∧ (crcOk bs = true → bs.length = 42 → ∀ (g : GroupIx) (x : Group), natAt8 bs 0 = g.val → x = s.group g →
      ((∃ last : Seq, x.lastEcho = some last
            ∧ ((wordAt bs 2 - last).toNat = 0 ∨ 32768 ≤ (wordAt bs 2 - last).toNat))
          ∨ 4 ≤ (x.outSeq - wordAt bs 2).toNat →
        exec (.feedbackFrame bs) s = .next ({ s with servo := { s.servo with
          framesReceived := min (s.servo.framesReceived + 1) 4294967295 } }.setGroup g
            { x with ctr := { x.ctr with feedbackStale := min (x.ctr.feedbackStale + 1) 4294967295 } }))
      ∧ ((∀ last : Seq, x.lastEcho = some last →
            1 ≤ (wordAt bs 2 - last).toNat ∧ (wordAt bs 2 - last).toNat ≤ 32767) →
          (x.outSeq - wordAt bs 2).toNat ≤ 3 →
        ∃ t : State, exec (.feedbackFrame bs) s = .next t
          ∧ t = { s with
              servo := { s.servo with
                framesReceived := min (s.servo.framesReceived + 1) 4294967295 },
              groups := t.groups, faultLine := t.faultLine, alertLine := t.alertLine }
          ∧ (∀ h : GroupIx, h ≠ g → t.group h = s.group h) ∧ t.LineLaw
          ∧ (t.group g).lastEcho = some (wordAt bs 2) ∧ (t.group g).sinceFb = 0
          ∧ (t.group g).ctr.feedbackAccepted = min (x.ctr.feedbackAccepted + 1) 4294967295
          ∧ (x.state = .idle ∨ x.state = .faulted → t.group g = { x with
              lastEcho := some (wordAt bs 2), sinceFb := 0,
              ctr := { x.ctr with
                feedbackAccepted := min (x.ctr.feedbackAccepted + 1) 4294967295 } })))

/-- The channel monitors at an accepted feedback frame (R110, R121, R122): the condition of each monitor,
its record afterwards in a group that stays watched, and its trip, which latches its kind in the class
of its mode; CHANNEL_MONITOR_TRIP is that frame where the monitor trips, and nothing elsewhere (the
model's choice, log entry 2). `v` is the value at the lane's and the monitor's place in the frame. -/
def Obligations.ChannelMonitorsTripAtTheirCount : Prop :=
  ∀ (s : State) (bs : List Byte) (g : GroupIx) (l : LaneIx) (k : ChannelKind) (ls : LimitSet)
    (m : LimitMon) (r : MonRec) (v : Du) (present trips : Bool) (count : Nat),
    s.judgeFeedback bs = .accepted g → (s.group g).state ≠ .idle → (s.group g).state ≠ .faulted →
    ls = s.limitSets.get ((s.group g).chans.get l).profile.limitSet →
    m = (match k with | .position => ls.position | .force => ls.force | .error => ls.error) →
    r = (match k with
      | .position => ((s.group g).chans.get l).position
      | .force => ((s.group g).chans.get l).force
      | .error => ((s.group g).chans.get l).error) →
    v = wordAt bs (4 + 6 * l.val + (match k with | .position => 0 | .force => 2 | .error => 4)) →
    (present = true ↔ match k with
      | .position => v.toInt < ls.posLo.toInt ∨ ls.posHi.toInt < v.toInt
      | .force => (ls.forceMax : Int) < |v.toInt|
      | .error => (ls.errMax : Int) < |v.toInt|) →
    count = (if present then min (r.count + 1) 255 else 0) →
    (trips = true ↔ m.mode ≠ .off ∧ count = m.deglitch ∧ ¬ (present = true ∧ r.tripped = true)) →
    ∃ t : State, exec (.feedbackFrame bs) s = .next t
      ∧ ((t.group g).state ≠ .idle → (t.group g).state ≠ .faulted →
        (match k with
          | .position => ((t.group g).chans.get l).position
          | .force => ((t.group g).chans.get l).force
          | .error => ((t.group g).chans.get l).error) =
        (if m.mode = .off then { cond := false, count := 0, tripped := false }
          else { cond := present, count := count, tripped := present && r.tripped || trips }))
      ∧ (trips = true →
        exec (.channelMonitorTrip l k bs) s = .next t
        ∧ (m.mode = .report → (t.group g).classOf (kindOf k) ≠ none)
        ∧ (m.mode ≠ .report → (t.group g).classOf (kindOf k) = some .action
          ∧ (t.group g).firstTrip ≠ none ∧ (t.group g).target ≠ none))
      ∧ (trips = false → exec (.channelMonitorTrip l k bs) s = .next s)

/-- The trip unit on one event (R139 to R145): discarded in IDLE; a report trip latches its kind and does
nothing else; an action trip latches its kind as ACTION, counts, writes the first-trip record when it is
absent, moves the end target and the resume target, and applies a stronger action by the state. In
RETRY_WAIT a retryable trip does no more than latch, count and record, and a non-retryable one enters
FAULTED. That a stronger action becomes the action in force in FAULTED too is read from R144's general
sentence (log entry 6). -/
def Obligations.TripsFollowTheirModeAndAction : Prop :=
  ∀ (x : Group) (ev : MonEvent) (t : Group), t = x.trip ev →
    (x.state = .idle → t = x)
    ∧ (x.state ≠ .idle → ev.mode = .report →
      t = { x with latched := t.latched } ∧ (∀ k : Kind, k ≠ ev.kind → t.classOf k = x.classOf k)
      ∧ t.classOf ev.kind = some ((x.classOf ev.kind).getD .report))
    ∧ (x.state ≠ .idle → ev.mode = .latch ∨ ev.mode = .retry →
      ∀ (retryable stronger : Bool) (final : GState),
      (retryable = true ↔ ev.mode = .retry ∧ x.retryCount < x.cfg.retryLimit) →
      (stronger = true ↔ strength x.action < strength ev.action) →
      final = (if retryable = true ∧ (x.target = none ∨ x.target = some .retryWait) then .retryWait
        else .faulted) →
      t.classOf ev.kind = some .action ∧ (∀ k : Kind, k ≠ ev.kind → t.classOf k = x.classOf k)
      ∧ t.ctr = { x.ctr with trips := min (x.ctr.trips + 1) 4294967295 }
      ∧ t.firstTrip = some (x.firstTrip.getD
          { kind := ev.kind, lane := ev.lane, outSeq := x.outSeq, observed := ev.observed,
            mode := if retryable then .retry else .latch })
      ∧ t.target = (if final = .retryWait then some .retryWait else some .faulted)
      ∧ t.resume = (if x.target ≠ none then x.resume else if x.state = .armed then .armed else .fadeIn)
      ∧ t.action = (if stronger = true ∧ ¬ (x.state = .retryWait ∧ retryable = true) then ev.action
        else x.action)
      ∧ t.state = (if x.state = .retryWait then (if retryable then .retryWait else .faulted)
        else if stronger = false then x.state
        else match x.state, ev.action with
          | .armed, _ => final
          | .fadeIn, some .park | .run, some .park | .fadeOut, some .park => .parking
          | .fadeIn, some .hold | .run, some .hold | .fadeOut, some .hold | .parking, some .hold => .held
          | .fadeIn, some .null | .run, some .null | .fadeOut, some .null | .parking, some .null
          | .held, some .null => final
          | st, _ => st)
      ∧ (x.state = .retryWait → retryable = true → t = { x with
          latched := t.latched, firstTrip := t.firstTrip, ctr := t.ctr, target := t.target,
          resume := t.resume })
      ∧ (t.state = .parking → x.state ≠ .parking →
          t.env = 4096 ∧ ∀ l : LaneIx, (t.chans.get l).x = (x.chans.get l).yPrev)
      ∧ (t.state = .held → x.state ≠ .held →
          t.env = x.env ∧ ∀ l : LaneIx, (t.chans.get l).x = (x.chans.get l).yPrev)
      ∧ (t.state = .retryWait → x.state ≠ .retryWait →
          t.env = 0 ∧ t.retryCount = x.retryCount + 1 ∧ t.retryTimer = x.cfg.retryTime
          ∧ t.queue = x.queue)
      ∧ (t.state = .faulted → x.state ≠ .faulted → t.env = 0 ∧ t.queue = []
          ∧ t.tallies.flushed = min (x.tallies.flushed + x.queue.length) 4294967295)
      ∧ (t.state ≠ .retryWait → t.retryCount = x.retryCount)
      ∧ (t.state = x.state → t.queue = x.queue ∧ t.env = x.env ∧ t.chans = x.chans)
      ∧ t.bound = x.bound ∧ t.source = x.source ∧ t.outSeq = x.outSeq ∧ t.att = x.att
      ∧ t.level = x.level ∧ t.expected = x.expected ∧ t.genRun = x.genRun ∧ t.cfg = x.cfg
      ∧ (∀ l : LaneIx, (t.chans.get l).yPrev = (x.chans.get l).yPrev
          ∧ (t.chans.get l).d = (x.chans.get l).d ∧ (t.chans.get l).trim = (x.chans.get l).trim))

/-- The INTERLOCK line (R137, R138, R148): an opening faults every group that is not IDLE, with INTERLOCK
latched as ACTION, the action in force NULL and the end target FAULTED; a closing moves the sensed state
alone. Where the line stands so already there is no change and nothing happens (log entry 15), and the
trip opens an episode as any action trip does (log entry 7). -/
def Obligations.InterlockFaultsEveryArmedGroup : Prop :=
  ∀ s : State,
    (s.interlockOpen = false → ∃ t : State, exec .interlockOpening s = .next t
      ∧ t.interlockOpen = true
      ∧ t = { s with
          interlockOpen := true, pins := { s.pins with interlockOpen := true }, groups := t.groups,
          faultLine := t.faultLine, alertLine := t.alertLine }
      ∧ t.LineLaw
      ∧ ∀ (g : GroupIx) (x : Group), x = s.group g → (x.state = .idle → t.group g = x)
        ∧ (x.state ≠ .idle → (t.group g).state = .faulted ∧ (t.group g).action = some .null
          ∧ (t.group g).target = some .faulted ∧ (t.group g).classOf .interlock = some .action
          ∧ (∀ k : Kind, k ≠ .interlock → (t.group g).classOf k = x.classOf k)
          ∧ (t.group g).ctr = { x.ctr with trips := min (x.ctr.trips + 1) 4294967295 }
          ∧ (t.group g).firstTrip = some (x.firstTrip.getD
              { kind := .interlock, lane := none, outSeq := x.outSeq, observed := none, mode := .latch })
          ∧ (t.group g).retryCount = x.retryCount
          ∧ (x.state ≠ .faulted → (t.group g).env = 0 ∧ (t.group g).queue = []
            ∧ (t.group g).tallies.flushed = min (x.tallies.flushed + x.queue.length) 4294967295
            ∧ ∀ l : LaneIx, ((t.group g).chans.get l).position = { cond := false, count := 0, tripped := false }
              ∧ ((t.group g).chans.get l).force = { cond := false, count := 0, tripped := false }
              ∧ ((t.group g).chans.get l).error = { cond := false, count := 0, tripped := false })))
    ∧ (s.interlockOpen = true → exec .interlockOpening s = .next s
      ∧ exec .interlockClosing s = .next
        { s with interlockOpen := false, pins := { s.pins with interlockOpen := false } })
    ∧ (s.interlockOpen = false → exec .interlockClosing s = .next s)

/-! ## Playback ports -/

/-- The completion of an upstream sending (R165, R181): the frame goes out as the bytes of R185, a response
or echo leaves its queue, and the next frame is the head of the response queue, else of the echo queue,
else the first occupied telemetry slot in rotating order. In the completion of the RESET_PART response
the reset lands (R170): power-on values, the straps kept for RELOAD and sampled for RESAMPLE, a frame
the other port has begun sent on, every counter 0. The strap levels arrive with the command (log entry
3), and the landing keeps what is the model's own: `sent` and `servoSent` (log entry 8), `freeCount`
(log entry 5). -/
def Obligations.UpstreamCompletionsSendAndChoose : Prop :=
  ∀ (s : State) (p : Port) (levels : Straps),
    ((s.port p).sending = none → exec (.upstreamSendComplete p levels) s = .next s)
    ∧ ∀ (f : Sending) (bytes : List Byte), (s.port p).sending = some f →
      (∃ body : List Byte, bytes = body ++ outWord (crc body) ∧ body =
        outWord (f.frame.tag.zeroExtend 16)
          ++ [(match f.frame.kind with | .response => 1#8 | .echo => 2#8 | .telemetry => 3#8),
            f.frame.unit.zeroExtend 8
              ||| (if f.frame.kind = .echo ∧ f.frame.origin = .b then 0x10#8 else 0#8),
            f.frame.ident, f.frame.status]
          ++ out16 f.frame.payload.length ++ f.frame.payload) →
      ∃ t : State, exec (.upstreamSendComplete p levels) s = .next t
        ∧ (t.port p).sent = (s.port p).sent ++ [bytes]
        ∧ t.pins = { s.pins with straps := levels } ∧ t.servoSent = s.servoSent
        ∧ (f.landing = none →
          t = { s with pins := t.pins, portA := t.portA, portB := t.portB }
          ∧ t.port (otherPort p) = s.port (otherPort p)
          ∧ ∀ (rs : List QResponse) (es : List UpFrame),
            rs = (if f.source = .response then (s.port p).responses.tail else (s.port p).responses) →
            es = (if f.source = .echo then (s.port p).echoes.tail else (s.port p).echoes) →
            (t.port p).responses = rs ∧ (t.port p).echoes = es
            ∧ (t.port p).requests = (s.port p).requests ∧ (t.port p).ctr = (s.port p).ctr
            ∧ (∀ (r : QResponse) (rest : List QResponse), rs = r :: rest →
              (t.port p).sending = some { frame := r.frame, source := .response, landing := r.landing }
              ∧ (t.port p).slots = (s.port p).slots)
            ∧ (∀ (e : UpFrame) (rest : List UpFrame), rs = [] → es = e :: rest →
              (t.port p).sending = some { frame := e, source := .echo, landing := none }
              ∧ (t.port p).slots = (s.port p).slots)
            ∧ (rs = [] → es = [] →
              ((∀ g : GroupIx, (s.port p).slots.get g = none) → (t.port p).sending = none)
              ∧ ∀ (j : Nat) (g : GroupIx) (u : UpFrame), j < 4 →
                g.val = ((s.port p).nextGroup.val + j) % 4 → (s.port p).slots.get g = some u →
                (∀ (i : Nat) (h : GroupIx), i < j → h.val = ((s.port p).nextGroup.val + i) % 4 →
                  (s.port p).slots.get h = none) →
                (t.port p).sending = some { frame := u, source := .detached, landing := none }
                ∧ (t.port p).slots = (s.port p).slots.set g none
                ∧ (t.port p).nextGroup.val = (g.val + 1) % 4))
        ∧ (∀ k : ResetKind, f.landing = some k → ∀ straps : Straps,
          straps = (match k with | .reload => s.straps | .resample => levels) →
          t = { State.fresh straps t.pins with
            portA := t.portA, portB := t.portB, servoSent := s.servoSent, freeCount := s.freeCount,
            pending := s.pending }
          ∧ (∀ r : Port, (t.port r).requests = [] ∧ (t.port r).responses = [] ∧ (t.port r).echoes = []
            ∧ (t.port r).policy = { policy := .all, defaultTag := 0 } ∧ (t.port r).nextGroup = 0
            ∧ (∀ g : GroupIx, (t.port r).slots.get g = none)
            ∧ (∀ c : ReqClass, (t.port r).actionFor c = .execute)
            ∧ (t.port r).ctr =
              { framesReceived := 0, checkErrors := 0, malformed := 0, admitRefused := 0, unknownTag := 0,
                unknownClass := 0, classDiscarded := 0, requestOverflow := 0, echoDropped := 0,
                telemetryReplaced := 0, excessSamples := 0 })
          ∧ (t.port p).sending = none
          ∧ (t.port (otherPort p)).sending.map Sending.frame =
            (s.port (otherPort p)).sending.map Sending.frame)

/-- A downstream frame up to the classifier (R30 to R35, R39, R160, R169): discarded uncounted while a
reset is in flight; else counted received and, at the first step that stops it, on the counter of that
step; a request of a class that is not discarded joins its queue, with the action recorded. -/
def Obligations.DownstreamFramesStopAtTheFirstFault : Prop :=
  ∀ (s : State) (p : Port) (bs : List Byte) (x : PortState) (tag received : Nat),
    x = s.port p → tag = natAt16 bs 0 → received = min (x.ctr.framesReceived + 1) 4294967295 →
    (s.resetInFlight = true → exec (.downstreamFrame p bs) s = .next s)
    ∧ (s.resetInFlight = false →
      (crcOk bs = false → exec (.downstreamFrame p bs) s = .next (s.setPort p { x with ctr := { x.ctr with
        framesReceived := received, checkErrors := min (x.ctr.checkErrors + 1) 4294967295 } }))
      ∧ (crcOk bs = true →
        (bs.length < 8 ∨ 0x1000 ≤ tag
            ∨ tag < 0xFF0 ∧ (byteAt bs 5 ≠ 0 ∨ natAt8 bs 4 = 0 ∨ 6 < natAt8 bs 4
              ∨ bs.length ≠ 8 + 2 * natAt8 bs 4)
            ∨ 0xFF0 ≤ tag ∧ (120 < natAt16 bs 4 ∨ bs.length ≠ 8 + natAt16 bs 4) →
          exec (.downstreamFrame p bs) s = .next (s.setPort p { x with ctr := { x.ctr with
            framesReceived := received, malformed := min (x.ctr.malformed + 1) 4294967295 } }))
        ∧ (0xFF0 ≤ tag → tag ≤ 0xFFF → natAt16 bs 4 ≤ 120 → bs.length = 8 + natAt16 bs 4 →
          (0xFF7 ≤ tag → exec (.downstreamFrame p bs) s = .next (s.setPort p { x with ctr := { x.ctr with
            framesReceived := received, unknownClass := min (x.ctr.unknownClass + 1) 4294967295 } }))
          ∧ ∀ c : ReqClass, tag = 0xFF0 + c.ix.val →
            (x.actionFor c = .discard →
              exec (.downstreamFrame p bs) s = .next (s.setPort p { x with ctr := { x.ctr with
                framesReceived := received,
                classDiscarded := min (x.ctr.classDiscarded + 1) 4294967295 } }))
            ∧ (x.actionFor c ≠ .discard → 4 ≤ x.requests.length →
              exec (.downstreamFrame p bs) s = .next (s.setPort p { x with ctr := { x.ctr with
                framesReceived := received,
                requestOverflow := min (x.ctr.requestOverflow + 1) 4294967295 } }))
            ∧ (x.actionFor c ≠ .discard → x.requests.length < 4 →
              exec (.downstreamFrame p bs) s = .next (s.setPort p { x with
                ctr := { x.ctr with framesReceived := received },
                requests := x.requests ++
                  [{ cls := c, id := byteAt bs 2, opcode := byteAt bs 3,
                     operands := (bs.drop 6).take (natAt16 bs 4), action := x.actionFor c }] })))
        ∧ (tag < 0xFF0 → byteAt bs 5 = 0 → 1 ≤ natAt8 bs 4 → natAt8 bs 4 ≤ 6 →
          bs.length = 8 + 2 * natAt8 bs 4 →
          ((tag = 0 ∧ (x.policy.policy = .taggedOnly ∨ x.policy.defaultTag = 0)
              ∨ tag ≠ 0 ∧ x.policy.policy = .untaggedOnly →
            exec (.downstreamFrame p bs) s = .next (s.setPort p { x with ctr := { x.ctr with
              framesReceived := received, admitRefused := min (x.ctr.admitRefused + 1) 4294967295 } }))
          ∧ ∀ effective : Nat,
            (tag = 0 → x.policy.policy ≠ .taggedOnly ∧ x.policy.defaultTag ≠ 0
              ∧ effective = x.policy.defaultTag.toNat) →
            (tag ≠ 0 → x.policy.policy ≠ .untaggedOnly ∧ effective = tag) →
            (∀ i : MapIx, (s.map.get i).valid = true → (s.map.get i).tag.toNat = effective →
              (s.map.get i).portMask.getLsbD (portCode p) = false) →
            exec (.downstreamFrame p bs) s = .next (s.setPort p { x with ctr := { x.ctr with
              framesReceived := received, unknownTag := min (x.ctr.unknownTag + 1) 4294967295 } })))))

/-- A stream frame that its entry matches (R39, R43, R44, R49, R50, R54 to R59). PRIMARY: dropped unless the
group is bound to the entry with source STREAM and not FAULTED; else judged by its gap: taken at the
tail, behind fillers for a short gap, dropped as overflow or stale, with the expected sequence moved on.
Past the gap fill limit the frame joins or overflows alike, the break is counted, and the SEQ_BREAK
monitor's event, unless its mode is OFF, meets the group as the arrival left it (R58). TRIM: its lanes'
trims are replaced, or the frame is stale. A frame that is lane-mapped with samples left over counts one
EXCESS_SAMPLES, and no other (R44). `e`, `n` and `seq` are the entry, the count of samples and the
sequence number; `slot` is lane mapping; `excess` is EXCESS_SAMPLES after a mapping. -/
def Obligations.StreamFramesReachTheirQueueOrTrim : Prop :=
  ∀ (s : State) (p : Port) (bs : List Byte) (i : MapIx) (e : MapEntry) (seq : Seq) (n : Nat)
    (slot : LaneIx → Option Du) (g : GroupIx) (x : Group) (excess : Nat),
    s.MapLaw → s.resetInFlight = false → crcOk bs = true → natAt16 bs 0 < 0xFF0 → byteAt bs 5 = 0 →
    n = natAt8 bs 4 → 1 ≤ n → n ≤ 6 → bs.length = 8 + 2 * n →
    (natAt16 bs 0 = 0 → (s.port p).policy.policy ≠ .taggedOnly) →
    (natAt16 bs 0 ≠ 0 → (s.port p).policy.policy ≠ .untaggedOnly) →
    e = s.map.get i → e.valid = true → e.portMask.getLsbD (portCode p) = true →
    e.tag.toNat = (if natAt16 bs 0 = 0 then (s.port p).policy.defaultTag.toNat else natAt16 bs 0) →
    seq = wordAt bs 2 → g = e.group → x = s.group g →
    excess = (if (lanes.filter fun k => e.laneMask.getLsbD k.val).length < n
      then min ((s.port p).ctr.excessSamples + 1) 4294967295 else (s.port p).ctr.excessSamples) →
    (∀ l : LaneIx, slot l = if e.laneMask.getLsbD l.val = true
        ∧ (lanes.filter fun k => decide (k < l) && e.laneMask.getLsbD k.val).length < n
      then some (wordAt bs (6 + 2 * (lanes.filter fun k =>
        decide (k < l) && e.laneMask.getLsbD k.val).length)) else none) →
    ∃ t : State, exec (.downstreamFrame p bs) s = .next t
      ∧ (∀ h : GroupIx, h ≠ g → t.group h = s.group h)
      ∧ t = { s with
          map := t.map, groups := t.groups, portA := t.portA, portB := t.portB,
          faultLine := t.faultLine, alertLine := t.alertLine }
      ∧ t.port (otherPort p) = s.port (otherPort p)
      ∧ t.port p = { s.port p with ctr := { (s.port p).ctr with
          framesReceived := min ((s.port p).ctr.framesReceived + 1) 4294967295,
          excessSamples := (t.port p).ctr.excessSamples } }
      ∧ (e.role = .primary → t.map = s.map
        ∧ (x.bound ≠ some i ∨ x.state = .idle →
          (t.port p).ctr.excessSamples = (s.port p).ctr.excessSamples
          ∧ t.group g = { x with ctr := { x.ctr with
            unboundDrops := min (x.ctr.unboundDrops + 1) 4294967295 } })
        ∧ (x.bound = some i → x.state ≠ .idle →
          (x.source = .generator ∨ x.state = .faulted →
            (t.port p).ctr.excessSamples = (s.port p).ctr.excessSamples
            ∧ t.group g = { x with ctr := { x.ctr with
              refusedDrops := min (x.ctr.refusedDrops + 1) 4294967295 } })
          ∧ (x.source = .stream → x.state ≠ .faulted → ∀ (entry filler : QEntry) (gap : Nat),
            entry = { seq := some seq, filler := false, slots := Tab.of slot } →
            filler = { seq := none, filler := true, slots := Tab.fill none } →
            gap = (match x.expected with | none => 0 | some w => (seq - w).toNat) →
            (t.port p).ctr.excessSamples = excess
            ∧ (32767 < gap → t.group g = { x with ctr := { x.ctr with
                staleDrops := min (x.ctr.staleDrops + 1) 4294967295 } })
            ∧ (gap ≤ x.cfg.gapFill → gap ≤ 32767 →
              t.group g = { x with
                queue := (x.queue ++ List.replicate (min gap (64 - x.queue.length)) filler)
                  ++ (if x.queue.length + gap < 64 then [entry] else []),
                expected := some (seq + 1),
                tallies := (t.group g).tallies,
                ctr := { x.ctr with
                  gapFrames := if gap = 0 then x.ctr.gapFrames
                    else min (x.ctr.gapFrames + gap) 4294967295,
                  fillerEntries := if gap = 0 then x.ctr.fillerEntries
                    else min (x.ctr.fillerEntries + min gap (64 - x.queue.length)) 4294967295,
                  overflowDrops := if x.queue.length + gap < 64 then x.ctr.overflowDrops
                    else min (x.ctr.overflowDrops + 1) 4294967295 } })
            ∧ (gap ≤ 32767 → x.tallies.enqueued ≤ 4294967295 →
              (t.group g).tallies.enqueued = min (x.tallies.enqueued
                + (if gap ≤ x.cfg.gapFill then min gap (64 - x.queue.length)
                    + (if x.queue.length + gap < 64 then 1 else 0)
                  else if x.queue.length < 64 then 1 else 0)) 4294967295
              ∧ (t.group g).tallies.played = x.tallies.played
              ∧ (t.group g).tallies.skipped = x.tallies.skipped)
            ∧ (x.cfg.gapFill < gap → gap ≤ 32767 → gap ≠ 0 → x.cfg.seqBreak.mode = .off →
              t.group g = { x with
                queue := x.queue ++ (if x.queue.length < 64 then [entry] else []),
                expected := some (seq + 1),
                tallies := (t.group g).tallies,
                ctr := { x.ctr with
                  gapFrames := min (x.ctr.gapFrames + gap) 4294967295,
                  seqBreaks := min (x.ctr.seqBreaks + 1) 4294967295,
                  overflowDrops := if x.queue.length < 64 then x.ctr.overflowDrops
                    else min (x.ctr.overflowDrops + 1) 4294967295 } })
            ∧ (x.cfg.gapFill < gap → gap ≤ 32767 → gap ≠ 0 → x.cfg.seqBreak.mode ≠ .off →
              ∀ (queue : List QEntry) (ctr : GroupCounters),
              queue = x.queue ++ (if x.queue.length < 64 then [entry] else []) →
              ctr = { x.ctr with
                gapFrames := min (x.ctr.gapFrames + gap) 4294967295,
                seqBreaks := min (x.ctr.seqBreaks + 1) 4294967295,
                overflowDrops := if x.queue.length < 64 then x.ctr.overflowDrops
                  else min (x.ctr.overflowDrops + 1) 4294967295 } →
              t.group g = ({ x with
                queue := queue, expected := some (seq + 1), ctr := ctr,
                tallies := if x.queue.length < 64 then
                  { x.tallies with enqueued := min (x.tallies.enqueued + 1) 4294967295 }
                  else x.tallies } : Group).trip
                  { kind := .seqBreak, lane := none, mode := x.cfg.seqBreak.mode,
                    action := some x.cfg.seqBreak.action, observed := none }
              ∧ (t.group g).expected = some (seq + 1) ∧ (t.group g).classOf .seqBreak ≠ none
              ∧ (t.group g).ctr = { ctr with
                  trips := if x.cfg.seqBreak.mode = .report then x.ctr.trips
                    else min (x.ctr.trips + 1) 4294967295 }
              ∧ ((t.group g).state ≠ .faulted → (t.group g).queue = queue)
              ∧ ((t.group g).state = .faulted → (t.group g).queue = [])
              ∧ (x.cfg.seqBreak.mode = .report → t.group g = { x with
                  queue := queue, expected := some (seq + 1), ctr := ctr,
                  tallies := (t.group g).tallies, latched := (t.group g).latched })))))
      ∧ (e.role = .trim →
        ((∃ last : Seq, e.lastTrim = some last ∧ ((seq - last).toNat = 0 ∨ 32768 ≤ (seq - last).toNat)) →
          t.group g = { x with ctr := { x.ctr with
            staleDrops := min (x.ctr.staleDrops + 1) 4294967295 } } ∧ t.map = s.map
          ∧ (t.port p).ctr.excessSamples = (s.port p).ctr.excessSamples)
        ∧ ((∀ last : Seq, e.lastTrim = some last →
            1 ≤ (seq - last).toNat ∧ (seq - last).toNat ≤ 32767) →
          t.map = s.map.set i { e with lastTrim := some seq } ∧ (t.port p).ctr.excessSamples = excess
          ∧ t.group g = { x with chans := (t.group g).chans }
          ∧ ∀ l : LaneIx, (t.group g).chans.get l =
            { x.chans.get l with trim := (slot l).getD (x.chans.get l).trim }))

/-- The check code (R31, R106, R183): the two values the rule works out, and every frame closed with the
code of its bytes passes the first test of ingress and of the servo link. -/
def Obligations.CheckCodesCloseEveryFrame : Prop :=
  crc [0x31, 0x32, 0x33, 0x34, 0x35, 0x36, 0x37, 0x38, 0x39] = 0x29B1#16 ∧ crc [0x00] = 0xE1F0#16
  ∧ (∀ bs : List Byte, bs ≠ [] → crcOk (sealFrame bs) = true)
  ∧ (∀ bs : List Byte, bs.length < 3 → crcOk bs = false)
  ∧ ∀ (bs : List Byte) (a b : Byte), bs ≠ [] → a ++ b ≠ crc bs → crcOk (bs ++ [a, b]) = false
end

