-- ==== Sys2Proof/Laws/Tab.lean ====
section
/-! SUPPORT. Reading a table after each way of writing one: later proofs never unfold `Tab`. -/

namespace Sys2Proof.Tab

variable {n : Nat} {α β : Type}

@[simp] theorem get_of (f : Fin n → α) (i : Fin n) : (of f).get i = f i := by
  simp [get, of]

@[simp] theorem get_fill (x : α) (i : Fin n) : (fill x : Tab n α).get i = x := by
  simp [fill]

@[simp] theorem get_map (f : α → β) (t : Tab n α) (i : Fin n) : (t.map f).get i = f (t.get i) := by
  simp [map]

@[simp] theorem get_mapIx (f : Fin n → α → β) (t : Tab n α) (i : Fin n) :
    (t.mapIx f).get i = f i (t.get i) := by
  simp [mapIx]

@[simp] theorem get_set_self (t : Tab n α) (i : Fin n) (x : α) : (t.set i x).get i = x := by
  simp [get, set]

theorem get_set (t : Tab n α) (i j : Fin n) (x : α) :
    (t.set i x).get j = if i = j then x else t.get j := by
  simp [get, set, Vector.getElem_set, Fin.ext_iff]

@[simp] theorem get_set_ne (t : Tab n α) {i j : Fin n} (x : α) (h : i ≠ j) :
    (t.set i x).get j = t.get j := by
  simp [get_set, h]

@[simp] theorem get_modify_self (t : Tab n α) (i : Fin n) (f : α → α) :
    (t.modify i f).get i = f (t.get i) := by
  simp [modify]

theorem get_modify (t : Tab n α) (i j : Fin n) (f : α → α) :
    (t.modify i f).get j = if i = j then f (t.get i) else t.get j := by
  simp [modify, get_set]

@[simp] theorem get_modify_ne (t : Tab n α) {i j : Fin n} (f : α → α) (h : i ≠ j) :
    (t.modify i f).get j = t.get j := by
  simp [get_modify, h]

@[ext] theorem ext_get {t u : Tab n α} (h : ∀ i, t.get i = u.get i) : t = u := by
  cases t with
  | mk v =>
    cases u with
    | mk w =>
      congr 1
      exact Vector.ext fun i hi => by simpa [get] using h ⟨i, hi⟩

@[simp] theorem set_get_self (t : Tab n α) (i : Fin n) : t.set i (t.get i) = t := by
  ext j
  by_cases h : i = j
  · subst h; simp
  · simp [h]

end Sys2Proof.Tab
end

