-- ==== Sys2Proof/Laws/State.lean ====
section
/-! SUPPORT. What each update of a record leaves in each of its fields, one lemma a field: later proofs
never unfold an update. `Laws/Device.lean` holds the updates that choose a port. -/

namespace Sys2Proof.Machine

/-! ## Groups -/

@[simp] theorem Group.insert_state (g : Group) (es : List QEntry) : (g.insert es).state = g.state := rfl
@[simp] theorem Group.insert_bound (g : Group) (es : List QEntry) : (g.insert es).bound = g.bound := rfl
@[simp] theorem Group.insert_source (g : Group) (es : List QEntry) : (g.insert es).source =
    g.source := rfl
@[simp] theorem Group.insert_expected (g : Group) (es : List QEntry) : (g.insert es).expected =
    g.expected := rfl
@[simp] theorem Group.insert_outSeq (g : Group) (es : List QEntry) : (g.insert es).outSeq =
    g.outSeq := rfl
@[simp] theorem Group.insert_env (g : Group) (es : List QEntry) : (g.insert es).env = g.env := rfl
@[simp] theorem Group.insert_level (g : Group) (es : List QEntry) : (g.insert es).level = g.level := rfl
@[simp] theorem Group.insert_att (g : Group) (es : List QEntry) : (g.insert es).att = g.att := rfl
@[simp] theorem Group.insert_retryCount (g : Group) (es : List QEntry) : (g.insert es).retryCount =
    g.retryCount := rfl
@[simp] theorem Group.insert_retryTimer (g : Group) (es : List QEntry) : (g.insert es).retryTimer =
    g.retryTimer := rfl
@[simp] theorem Group.insert_resume (g : Group) (es : List QEntry) : (g.insert es).resume =
    g.resume := rfl
@[simp] theorem Group.insert_streak (g : Group) (es : List QEntry) : (g.insert es).streak =
    g.streak := rfl
@[simp] theorem Group.insert_sinceFb (g : Group) (es : List QEntry) : (g.insert es).sinceFb =
    g.sinceFb := rfl
@[simp] theorem Group.insert_telemCount (g : Group) (es : List QEntry) : (g.insert es).telemCount =
    g.telemCount := rfl
@[simp] theorem Group.insert_genDone (g : Group) (es : List QEntry) : (g.insert es).genDone =
    g.genDone := rfl
@[simp] theorem Group.insert_tallies (g : Group) (es : List QEntry) :
    (g.insert es).tallies = { g.tallies with enqueued := satAdd g.tallies.enqueued es.length } := rfl
@[simp] theorem Group.insert_latched (g : Group) (es : List QEntry) : (g.insert es).latched =
    g.latched := rfl
@[simp] theorem Group.insert_firstTrip (g : Group) (es : List QEntry) : (g.insert es).firstTrip =
    g.firstTrip := rfl
@[simp] theorem Group.insert_action (g : Group) (es : List QEntry) : (g.insert es).action =
    g.action := rfl
@[simp] theorem Group.insert_target (g : Group) (es : List QEntry) : (g.insert es).target =
    g.target := rfl
@[simp] theorem Group.insert_cfg (g : Group) (es : List QEntry) : (g.insert es).cfg = g.cfg := rfl
@[simp] theorem Group.insert_gen (g : Group) (es : List QEntry) : (g.insert es).gen = g.gen := rfl
@[simp] theorem Group.insert_genRun (g : Group) (es : List QEntry) : (g.insert es).genRun =
    g.genRun := rfl
@[simp] theorem Group.insert_queue (g : Group) (es : List QEntry) :
    (g.insert es).queue = g.queue ++ es := rfl
@[simp] theorem Group.insert_lastEcho (g : Group) (es : List QEntry) : (g.insert es).lastEcho =
    g.lastEcho := rfl
@[simp] theorem Group.insert_chans (g : Group) (es : List QEntry) : (g.insert es).chans = g.chans := rfl
@[simp] theorem Group.insert_ctr (g : Group) (es : List QEntry) : (g.insert es).ctr = g.ctr := rfl

@[simp] theorem Group.countGap_state (g : Group) (n : Nat) : (g.countGap n).state = g.state := rfl
@[simp] theorem Group.countGap_bound (g : Group) (n : Nat) : (g.countGap n).bound = g.bound := rfl
@[simp] theorem Group.countGap_source (g : Group) (n : Nat) : (g.countGap n).source = g.source := rfl
@[simp] theorem Group.countGap_expected (g : Group) (n : Nat) : (g.countGap n).expected =
    g.expected := rfl
@[simp] theorem Group.countGap_outSeq (g : Group) (n : Nat) : (g.countGap n).outSeq = g.outSeq := rfl
@[simp] theorem Group.countGap_env (g : Group) (n : Nat) : (g.countGap n).env = g.env := rfl
@[simp] theorem Group.countGap_level (g : Group) (n : Nat) : (g.countGap n).level = g.level := rfl
@[simp] theorem Group.countGap_att (g : Group) (n : Nat) : (g.countGap n).att = g.att := rfl
@[simp] theorem Group.countGap_retryCount (g : Group) (n : Nat) : (g.countGap n).retryCount =
    g.retryCount := rfl
@[simp] theorem Group.countGap_retryTimer (g : Group) (n : Nat) : (g.countGap n).retryTimer =
    g.retryTimer := rfl
@[simp] theorem Group.countGap_resume (g : Group) (n : Nat) : (g.countGap n).resume = g.resume := rfl
@[simp] theorem Group.countGap_streak (g : Group) (n : Nat) : (g.countGap n).streak = g.streak := rfl
@[simp] theorem Group.countGap_sinceFb (g : Group) (n : Nat) : (g.countGap n).sinceFb = g.sinceFb := rfl
@[simp] theorem Group.countGap_telemCount (g : Group) (n : Nat) : (g.countGap n).telemCount =
    g.telemCount := rfl
@[simp] theorem Group.countGap_genDone (g : Group) (n : Nat) : (g.countGap n).genDone = g.genDone := rfl
@[simp] theorem Group.countGap_tallies (g : Group) (n : Nat) : (g.countGap n).tallies = g.tallies := rfl
@[simp] theorem Group.countGap_latched (g : Group) (n : Nat) : (g.countGap n).latched = g.latched := rfl
@[simp] theorem Group.countGap_firstTrip (g : Group) (n : Nat) : (g.countGap n).firstTrip =
    g.firstTrip := rfl
@[simp] theorem Group.countGap_action (g : Group) (n : Nat) : (g.countGap n).action = g.action := rfl
@[simp] theorem Group.countGap_target (g : Group) (n : Nat) : (g.countGap n).target = g.target := rfl
@[simp] theorem Group.countGap_cfg (g : Group) (n : Nat) : (g.countGap n).cfg = g.cfg := rfl
@[simp] theorem Group.countGap_gen (g : Group) (n : Nat) : (g.countGap n).gen = g.gen := rfl
@[simp] theorem Group.countGap_genRun (g : Group) (n : Nat) : (g.countGap n).genRun = g.genRun := rfl
@[simp] theorem Group.countGap_queue (g : Group) (n : Nat) : (g.countGap n).queue = g.queue := rfl
@[simp] theorem Group.countGap_lastEcho (g : Group) (n : Nat) : (g.countGap n).lastEcho =
    g.lastEcho := rfl
@[simp] theorem Group.countGap_chans (g : Group) (n : Nat) : (g.countGap n).chans = g.chans := rfl
@[simp] theorem Group.countGap_ctr (g : Group) (n : Nat) :
    (g.countGap n).ctr = { g.ctr with gapFrames := satAdd g.ctr.gapFrames n } := rfl

@[simp] theorem Group.countBreak_state (g : Group) : g.countBreak.state = g.state := rfl
@[simp] theorem Group.countBreak_bound (g : Group) : g.countBreak.bound = g.bound := rfl
@[simp] theorem Group.countBreak_source (g : Group) : g.countBreak.source = g.source := rfl
@[simp] theorem Group.countBreak_expected (g : Group) : g.countBreak.expected = g.expected := rfl
@[simp] theorem Group.countBreak_outSeq (g : Group) : g.countBreak.outSeq = g.outSeq := rfl
@[simp] theorem Group.countBreak_env (g : Group) : g.countBreak.env = g.env := rfl
@[simp] theorem Group.countBreak_level (g : Group) : g.countBreak.level = g.level := rfl
@[simp] theorem Group.countBreak_att (g : Group) : g.countBreak.att = g.att := rfl
@[simp] theorem Group.countBreak_retryCount (g : Group) : g.countBreak.retryCount = g.retryCount := rfl
@[simp] theorem Group.countBreak_retryTimer (g : Group) : g.countBreak.retryTimer = g.retryTimer := rfl
@[simp] theorem Group.countBreak_resume (g : Group) : g.countBreak.resume = g.resume := rfl
@[simp] theorem Group.countBreak_streak (g : Group) : g.countBreak.streak = g.streak := rfl
@[simp] theorem Group.countBreak_sinceFb (g : Group) : g.countBreak.sinceFb = g.sinceFb := rfl
@[simp] theorem Group.countBreak_telemCount (g : Group) : g.countBreak.telemCount = g.telemCount := rfl
@[simp] theorem Group.countBreak_genDone (g : Group) : g.countBreak.genDone = g.genDone := rfl
@[simp] theorem Group.countBreak_tallies (g : Group) : g.countBreak.tallies = g.tallies := rfl
@[simp] theorem Group.countBreak_latched (g : Group) : g.countBreak.latched = g.latched := rfl
@[simp] theorem Group.countBreak_firstTrip (g : Group) : g.countBreak.firstTrip = g.firstTrip := rfl
@[simp] theorem Group.countBreak_action (g : Group) : g.countBreak.action = g.action := rfl
@[simp] theorem Group.countBreak_target (g : Group) : g.countBreak.target = g.target := rfl
@[simp] theorem Group.countBreak_cfg (g : Group) : g.countBreak.cfg = g.cfg := rfl
@[simp] theorem Group.countBreak_gen (g : Group) : g.countBreak.gen = g.gen := rfl
@[simp] theorem Group.countBreak_genRun (g : Group) : g.countBreak.genRun = g.genRun := rfl
@[simp] theorem Group.countBreak_queue (g : Group) : g.countBreak.queue = g.queue := rfl
@[simp] theorem Group.countBreak_lastEcho (g : Group) : g.countBreak.lastEcho = g.lastEcho := rfl
@[simp] theorem Group.countBreak_chans (g : Group) : g.countBreak.chans = g.chans := rfl
@[simp] theorem Group.countBreak_ctr (g : Group) :
    g.countBreak.ctr = { g.ctr with seqBreaks := satAdd g.ctr.seqBreaks 1 } := rfl

@[simp] theorem Group.countStale_state (g : Group) : g.countStale.state = g.state := rfl
@[simp] theorem Group.countStale_bound (g : Group) : g.countStale.bound = g.bound := rfl
@[simp] theorem Group.countStale_source (g : Group) : g.countStale.source = g.source := rfl
@[simp] theorem Group.countStale_expected (g : Group) : g.countStale.expected = g.expected := rfl
@[simp] theorem Group.countStale_outSeq (g : Group) : g.countStale.outSeq = g.outSeq := rfl
@[simp] theorem Group.countStale_env (g : Group) : g.countStale.env = g.env := rfl
@[simp] theorem Group.countStale_level (g : Group) : g.countStale.level = g.level := rfl
@[simp] theorem Group.countStale_att (g : Group) : g.countStale.att = g.att := rfl
@[simp] theorem Group.countStale_retryCount (g : Group) : g.countStale.retryCount = g.retryCount := rfl
@[simp] theorem Group.countStale_retryTimer (g : Group) : g.countStale.retryTimer = g.retryTimer := rfl
@[simp] theorem Group.countStale_resume (g : Group) : g.countStale.resume = g.resume := rfl
@[simp] theorem Group.countStale_streak (g : Group) : g.countStale.streak = g.streak := rfl
@[simp] theorem Group.countStale_sinceFb (g : Group) : g.countStale.sinceFb = g.sinceFb := rfl
@[simp] theorem Group.countStale_telemCount (g : Group) : g.countStale.telemCount = g.telemCount := rfl
@[simp] theorem Group.countStale_genDone (g : Group) : g.countStale.genDone = g.genDone := rfl
@[simp] theorem Group.countStale_tallies (g : Group) : g.countStale.tallies = g.tallies := rfl
@[simp] theorem Group.countStale_latched (g : Group) : g.countStale.latched = g.latched := rfl
@[simp] theorem Group.countStale_firstTrip (g : Group) : g.countStale.firstTrip = g.firstTrip := rfl
@[simp] theorem Group.countStale_action (g : Group) : g.countStale.action = g.action := rfl
@[simp] theorem Group.countStale_target (g : Group) : g.countStale.target = g.target := rfl
@[simp] theorem Group.countStale_cfg (g : Group) : g.countStale.cfg = g.cfg := rfl
@[simp] theorem Group.countStale_gen (g : Group) : g.countStale.gen = g.gen := rfl
@[simp] theorem Group.countStale_genRun (g : Group) : g.countStale.genRun = g.genRun := rfl
@[simp] theorem Group.countStale_queue (g : Group) : g.countStale.queue = g.queue := rfl
@[simp] theorem Group.countStale_lastEcho (g : Group) : g.countStale.lastEcho = g.lastEcho := rfl
@[simp] theorem Group.countStale_chans (g : Group) : g.countStale.chans = g.chans := rfl
@[simp] theorem Group.countStale_ctr (g : Group) :
    g.countStale.ctr = { g.ctr with staleDrops := satAdd g.ctr.staleDrops 1 } := rfl

@[simp] theorem Group.expectAfter_state (g : Group) (w : Seq) : (g.expectAfter w).state = g.state := rfl
@[simp] theorem Group.expectAfter_bound (g : Group) (w : Seq) : (g.expectAfter w).bound = g.bound := rfl
@[simp] theorem Group.expectAfter_source (g : Group) (w : Seq) : (g.expectAfter w).source =
    g.source := rfl
@[simp] theorem Group.expectAfter_expected (g : Group) (w : Seq) :
    (g.expectAfter w).expected = some (w + 1) := rfl
@[simp] theorem Group.expectAfter_outSeq (g : Group) (w : Seq) : (g.expectAfter w).outSeq =
    g.outSeq := rfl
@[simp] theorem Group.expectAfter_env (g : Group) (w : Seq) : (g.expectAfter w).env = g.env := rfl
@[simp] theorem Group.expectAfter_level (g : Group) (w : Seq) : (g.expectAfter w).level = g.level := rfl
@[simp] theorem Group.expectAfter_att (g : Group) (w : Seq) : (g.expectAfter w).att = g.att := rfl
@[simp] theorem Group.expectAfter_retryCount (g : Group) (w : Seq) : (g.expectAfter w).retryCount =
    g.retryCount := rfl
@[simp] theorem Group.expectAfter_retryTimer (g : Group) (w : Seq) : (g.expectAfter w).retryTimer =
    g.retryTimer := rfl
@[simp] theorem Group.expectAfter_resume (g : Group) (w : Seq) : (g.expectAfter w).resume =
    g.resume := rfl
@[simp] theorem Group.expectAfter_streak (g : Group) (w : Seq) : (g.expectAfter w).streak =
    g.streak := rfl
@[simp] theorem Group.expectAfter_sinceFb (g : Group) (w : Seq) : (g.expectAfter w).sinceFb =
    g.sinceFb := rfl
@[simp] theorem Group.expectAfter_telemCount (g : Group) (w : Seq) : (g.expectAfter w).telemCount =
    g.telemCount := rfl
@[simp] theorem Group.expectAfter_genDone (g : Group) (w : Seq) : (g.expectAfter w).genDone =
    g.genDone := rfl
@[simp] theorem Group.expectAfter_tallies (g : Group) (w : Seq) : (g.expectAfter w).tallies =
    g.tallies := rfl
@[simp] theorem Group.expectAfter_latched (g : Group) (w : Seq) : (g.expectAfter w).latched =
    g.latched := rfl
@[simp] theorem Group.expectAfter_firstTrip (g : Group) (w : Seq) : (g.expectAfter w).firstTrip =
    g.firstTrip := rfl
@[simp] theorem Group.expectAfter_action (g : Group) (w : Seq) : (g.expectAfter w).action =
    g.action := rfl
@[simp] theorem Group.expectAfter_target (g : Group) (w : Seq) : (g.expectAfter w).target =
    g.target := rfl
@[simp] theorem Group.expectAfter_cfg (g : Group) (w : Seq) : (g.expectAfter w).cfg = g.cfg := rfl
@[simp] theorem Group.expectAfter_gen (g : Group) (w : Seq) : (g.expectAfter w).gen = g.gen := rfl
@[simp] theorem Group.expectAfter_genRun (g : Group) (w : Seq) : (g.expectAfter w).genRun =
    g.genRun := rfl
@[simp] theorem Group.expectAfter_queue (g : Group) (w : Seq) : (g.expectAfter w).queue = g.queue := rfl
@[simp] theorem Group.expectAfter_lastEcho (g : Group) (w : Seq) : (g.expectAfter w).lastEcho =
    g.lastEcho := rfl
@[simp] theorem Group.expectAfter_chans (g : Group) (w : Seq) : (g.expectAfter w).chans = g.chans := rfl
@[simp] theorem Group.expectAfter_ctr (g : Group) (w : Seq) : (g.expectAfter w).ctr = g.ctr := rfl

@[simp] theorem Group.flush_state (g : Group) : g.flush.state = g.state := rfl
@[simp] theorem Group.flush_bound (g : Group) : g.flush.bound = g.bound := rfl
@[simp] theorem Group.flush_source (g : Group) : g.flush.source = g.source := rfl
@[simp] theorem Group.flush_expected (g : Group) : g.flush.expected = g.expected := rfl
@[simp] theorem Group.flush_outSeq (g : Group) : g.flush.outSeq = g.outSeq := rfl
@[simp] theorem Group.flush_env (g : Group) : g.flush.env = g.env := rfl
@[simp] theorem Group.flush_level (g : Group) : g.flush.level = g.level := rfl
@[simp] theorem Group.flush_att (g : Group) : g.flush.att = g.att := rfl
@[simp] theorem Group.flush_retryCount (g : Group) : g.flush.retryCount = g.retryCount := rfl
@[simp] theorem Group.flush_retryTimer (g : Group) : g.flush.retryTimer = g.retryTimer := rfl
@[simp] theorem Group.flush_resume (g : Group) : g.flush.resume = g.resume := rfl
@[simp] theorem Group.flush_streak (g : Group) : g.flush.streak = g.streak := rfl
@[simp] theorem Group.flush_sinceFb (g : Group) : g.flush.sinceFb = g.sinceFb := rfl
@[simp] theorem Group.flush_telemCount (g : Group) : g.flush.telemCount = g.telemCount := rfl
@[simp] theorem Group.flush_genDone (g : Group) : g.flush.genDone = g.genDone := rfl
@[simp] theorem Group.flush_tallies (g : Group) :
    g.flush.tallies = { g.tallies with flushed := satAdd g.tallies.flushed g.queue.length } := rfl
@[simp] theorem Group.flush_latched (g : Group) : g.flush.latched = g.latched := rfl
@[simp] theorem Group.flush_firstTrip (g : Group) : g.flush.firstTrip = g.firstTrip := rfl
@[simp] theorem Group.flush_action (g : Group) : g.flush.action = g.action := rfl
@[simp] theorem Group.flush_target (g : Group) : g.flush.target = g.target := rfl
@[simp] theorem Group.flush_cfg (g : Group) : g.flush.cfg = g.cfg := rfl
@[simp] theorem Group.flush_gen (g : Group) : g.flush.gen = g.gen := rfl
@[simp] theorem Group.flush_genRun (g : Group) : g.flush.genRun = g.genRun := rfl
@[simp] theorem Group.flush_queue (g : Group) :
    g.flush.queue = [] := rfl
@[simp] theorem Group.flush_lastEcho (g : Group) : g.flush.lastEcho = g.lastEcho := rfl
@[simp] theorem Group.flush_chans (g : Group) : g.flush.chans = g.chans := rfl
@[simp] theorem Group.flush_ctr (g : Group) : g.flush.ctr = g.ctr := rfl

@[simp] theorem Group.enterIdle_state (g : Group) :
    g.enterIdle.state = .idle := rfl
@[simp] theorem Group.enterIdle_bound (g : Group) :
    g.enterIdle.bound = none := rfl
@[simp] theorem Group.enterIdle_source (g : Group) :
    g.enterIdle.source = .stream := rfl
@[simp] theorem Group.enterIdle_expected (g : Group) : g.enterIdle.expected = g.expected := rfl
@[simp] theorem Group.enterIdle_outSeq (g : Group) : g.enterIdle.outSeq = g.outSeq := rfl
@[simp] theorem Group.enterIdle_env (g : Group) :
    g.enterIdle.env = 0 := rfl
@[simp] theorem Group.enterIdle_level (g : Group) : g.enterIdle.level = g.level := rfl
@[simp] theorem Group.enterIdle_att (g : Group) : g.enterIdle.att = g.att := rfl
@[simp] theorem Group.enterIdle_retryCount (g : Group) : g.enterIdle.retryCount = g.retryCount := rfl
@[simp] theorem Group.enterIdle_retryTimer (g : Group) : g.enterIdle.retryTimer = g.retryTimer := rfl
@[simp] theorem Group.enterIdle_resume (g : Group) : g.enterIdle.resume = g.resume := rfl
@[simp] theorem Group.enterIdle_streak (g : Group) : g.enterIdle.streak = g.streak := rfl
@[simp] theorem Group.enterIdle_sinceFb (g : Group) : g.enterIdle.sinceFb = g.sinceFb := rfl
@[simp] theorem Group.enterIdle_telemCount (g : Group) : g.enterIdle.telemCount = g.telemCount := rfl
@[simp] theorem Group.enterIdle_genDone (g : Group) : g.enterIdle.genDone = g.genDone := rfl
@[simp] theorem Group.enterIdle_tallies (g : Group) :
    g.enterIdle.tallies = g.flush.tallies := rfl
@[simp] theorem Group.enterIdle_latched (g : Group) : g.enterIdle.latched = g.latched := rfl
@[simp] theorem Group.enterIdle_firstTrip (g : Group) : g.enterIdle.firstTrip = g.firstTrip := rfl
@[simp] theorem Group.enterIdle_action (g : Group) :
    g.enterIdle.action = none := rfl
@[simp] theorem Group.enterIdle_target (g : Group) :
    g.enterIdle.target = none := rfl
@[simp] theorem Group.enterIdle_cfg (g : Group) : g.enterIdle.cfg = g.cfg := rfl
@[simp] theorem Group.enterIdle_gen (g : Group) : g.enterIdle.gen = g.gen := rfl
@[simp] theorem Group.enterIdle_genRun (g : Group) : g.enterIdle.genRun = g.genRun := rfl
@[simp] theorem Group.enterIdle_queue (g : Group) :
    g.enterIdle.queue = [] := rfl
@[simp] theorem Group.enterIdle_lastEcho (g : Group) : g.enterIdle.lastEcho = g.lastEcho := rfl
@[simp] theorem Group.enterIdle_chans (g : Group) :
    g.enterIdle.chans = g.chans.map fun c => { c.clearMonitors with trim := 0 } := rfl
@[simp] theorem Group.enterIdle_ctr (g : Group) : g.enterIdle.ctr = g.ctr := rfl

@[simp] theorem Group.enterFaulted_state (g : Group) :
    g.enterFaulted.state = .faulted := rfl
@[simp] theorem Group.enterFaulted_bound (g : Group) : g.enterFaulted.bound = g.bound := rfl
@[simp] theorem Group.enterFaulted_source (g : Group) : g.enterFaulted.source = g.source := rfl
@[simp] theorem Group.enterFaulted_expected (g : Group) : g.enterFaulted.expected = g.expected := rfl
@[simp] theorem Group.enterFaulted_outSeq (g : Group) : g.enterFaulted.outSeq = g.outSeq := rfl
@[simp] theorem Group.enterFaulted_env (g : Group) :
    g.enterFaulted.env = 0 := rfl
@[simp] theorem Group.enterFaulted_level (g : Group) : g.enterFaulted.level = g.level := rfl
@[simp] theorem Group.enterFaulted_att (g : Group) : g.enterFaulted.att = g.att := rfl
@[simp] theorem Group.enterFaulted_retryCount (g : Group) : g.enterFaulted.retryCount =
    g.retryCount := rfl
@[simp] theorem Group.enterFaulted_retryTimer (g : Group) : g.enterFaulted.retryTimer =
    g.retryTimer := rfl
@[simp] theorem Group.enterFaulted_resume (g : Group) : g.enterFaulted.resume = g.resume := rfl
@[simp] theorem Group.enterFaulted_streak (g : Group) : g.enterFaulted.streak = g.streak := rfl
@[simp] theorem Group.enterFaulted_sinceFb (g : Group) : g.enterFaulted.sinceFb = g.sinceFb := rfl
@[simp] theorem Group.enterFaulted_telemCount (g : Group) : g.enterFaulted.telemCount =
    g.telemCount := rfl
@[simp] theorem Group.enterFaulted_genDone (g : Group) : g.enterFaulted.genDone = g.genDone := rfl
@[simp] theorem Group.enterFaulted_tallies (g : Group) :
    g.enterFaulted.tallies = g.flush.tallies := rfl
@[simp] theorem Group.enterFaulted_latched (g : Group) : g.enterFaulted.latched = g.latched := rfl
@[simp] theorem Group.enterFaulted_firstTrip (g : Group) : g.enterFaulted.firstTrip = g.firstTrip := rfl
@[simp] theorem Group.enterFaulted_action (g : Group) : g.enterFaulted.action = g.action := rfl
@[simp] theorem Group.enterFaulted_target (g : Group) : g.enterFaulted.target = g.target := rfl
@[simp] theorem Group.enterFaulted_cfg (g : Group) : g.enterFaulted.cfg = g.cfg := rfl
@[simp] theorem Group.enterFaulted_gen (g : Group) : g.enterFaulted.gen = g.gen := rfl
@[simp] theorem Group.enterFaulted_genRun (g : Group) : g.enterFaulted.genRun = g.genRun := rfl
@[simp] theorem Group.enterFaulted_queue (g : Group) :
    g.enterFaulted.queue = [] := rfl
@[simp] theorem Group.enterFaulted_lastEcho (g : Group) : g.enterFaulted.lastEcho = g.lastEcho := rfl
@[simp] theorem Group.enterFaulted_chans (g : Group) :
    g.enterFaulted.chans = g.chans.map Channel.clearMonitors := rfl
@[simp] theorem Group.enterFaulted_ctr (g : Group) : g.enterFaulted.ctr = g.ctr := rfl

@[simp] theorem Group.freeze_state (g : Group) : g.freeze.state = g.state := rfl
@[simp] theorem Group.freeze_bound (g : Group) : g.freeze.bound = g.bound := rfl
@[simp] theorem Group.freeze_source (g : Group) : g.freeze.source = g.source := rfl
@[simp] theorem Group.freeze_expected (g : Group) : g.freeze.expected = g.expected := rfl
@[simp] theorem Group.freeze_outSeq (g : Group) : g.freeze.outSeq = g.outSeq := rfl
@[simp] theorem Group.freeze_env (g : Group) : g.freeze.env = g.env := rfl
@[simp] theorem Group.freeze_level (g : Group) : g.freeze.level = g.level := rfl
@[simp] theorem Group.freeze_att (g : Group) : g.freeze.att = g.att := rfl
@[simp] theorem Group.freeze_retryCount (g : Group) : g.freeze.retryCount = g.retryCount := rfl
@[simp] theorem Group.freeze_retryTimer (g : Group) : g.freeze.retryTimer = g.retryTimer := rfl
@[simp] theorem Group.freeze_resume (g : Group) : g.freeze.resume = g.resume := rfl
@[simp] theorem Group.freeze_streak (g : Group) : g.freeze.streak = g.streak := rfl
@[simp] theorem Group.freeze_sinceFb (g : Group) : g.freeze.sinceFb = g.sinceFb := rfl
@[simp] theorem Group.freeze_telemCount (g : Group) : g.freeze.telemCount = g.telemCount := rfl
@[simp] theorem Group.freeze_genDone (g : Group) : g.freeze.genDone = g.genDone := rfl
@[simp] theorem Group.freeze_tallies (g : Group) : g.freeze.tallies = g.tallies := rfl
@[simp] theorem Group.freeze_latched (g : Group) : g.freeze.latched = g.latched := rfl
@[simp] theorem Group.freeze_firstTrip (g : Group) : g.freeze.firstTrip = g.firstTrip := rfl
@[simp] theorem Group.freeze_action (g : Group) : g.freeze.action = g.action := rfl
@[simp] theorem Group.freeze_target (g : Group) : g.freeze.target = g.target := rfl
@[simp] theorem Group.freeze_cfg (g : Group) : g.freeze.cfg = g.cfg := rfl
@[simp] theorem Group.freeze_gen (g : Group) : g.freeze.gen = g.gen := rfl
@[simp] theorem Group.freeze_genRun (g : Group) : g.freeze.genRun = g.genRun := rfl
@[simp] theorem Group.freeze_queue (g : Group) : g.freeze.queue = g.queue := rfl
@[simp] theorem Group.freeze_lastEcho (g : Group) : g.freeze.lastEcho = g.lastEcho := rfl
@[simp] theorem Group.freeze_chans (g : Group) :
    g.freeze.chans = g.chans.map fun c => { c with x := c.yPrev } := rfl
@[simp] theorem Group.freeze_ctr (g : Group) : g.freeze.ctr = g.ctr := rfl

@[simp] theorem Group.enterParking_state (g : Group) :
    g.enterParking.state = .parking := rfl
@[simp] theorem Group.enterParking_bound (g : Group) : g.enterParking.bound = g.bound := rfl
@[simp] theorem Group.enterParking_source (g : Group) : g.enterParking.source = g.source := rfl
@[simp] theorem Group.enterParking_expected (g : Group) : g.enterParking.expected = g.expected := rfl
@[simp] theorem Group.enterParking_outSeq (g : Group) : g.enterParking.outSeq = g.outSeq := rfl
@[simp] theorem Group.enterParking_env (g : Group) :
    g.enterParking.env = 4096 := rfl
@[simp] theorem Group.enterParking_level (g : Group) : g.enterParking.level = g.level := rfl
@[simp] theorem Group.enterParking_att (g : Group) : g.enterParking.att = g.att := rfl
@[simp] theorem Group.enterParking_retryCount (g : Group) : g.enterParking.retryCount =
    g.retryCount := rfl
@[simp] theorem Group.enterParking_retryTimer (g : Group) : g.enterParking.retryTimer =
    g.retryTimer := rfl
@[simp] theorem Group.enterParking_resume (g : Group) : g.enterParking.resume = g.resume := rfl
@[simp] theorem Group.enterParking_streak (g : Group) : g.enterParking.streak = g.streak := rfl
@[simp] theorem Group.enterParking_sinceFb (g : Group) : g.enterParking.sinceFb = g.sinceFb := rfl
@[simp] theorem Group.enterParking_telemCount (g : Group) : g.enterParking.telemCount =
    g.telemCount := rfl
@[simp] theorem Group.enterParking_genDone (g : Group) : g.enterParking.genDone = g.genDone := rfl
@[simp] theorem Group.enterParking_tallies (g : Group) : g.enterParking.tallies = g.tallies := rfl
@[simp] theorem Group.enterParking_latched (g : Group) : g.enterParking.latched = g.latched := rfl
@[simp] theorem Group.enterParking_firstTrip (g : Group) : g.enterParking.firstTrip = g.firstTrip := rfl
@[simp] theorem Group.enterParking_action (g : Group) : g.enterParking.action = g.action := rfl
@[simp] theorem Group.enterParking_target (g : Group) : g.enterParking.target = g.target := rfl
@[simp] theorem Group.enterParking_cfg (g : Group) : g.enterParking.cfg = g.cfg := rfl
@[simp] theorem Group.enterParking_gen (g : Group) : g.enterParking.gen = g.gen := rfl
@[simp] theorem Group.enterParking_genRun (g : Group) : g.enterParking.genRun = g.genRun := rfl
@[simp] theorem Group.enterParking_queue (g : Group) : g.enterParking.queue = g.queue := rfl
@[simp] theorem Group.enterParking_lastEcho (g : Group) : g.enterParking.lastEcho = g.lastEcho := rfl
@[simp] theorem Group.enterParking_chans (g : Group) :
    g.enterParking.chans = g.freeze.chans := rfl
@[simp] theorem Group.enterParking_ctr (g : Group) : g.enterParking.ctr = g.ctr := rfl

@[simp] theorem Group.enterHeld_state (g : Group) :
    g.enterHeld.state = .held := rfl
@[simp] theorem Group.enterHeld_bound (g : Group) : g.enterHeld.bound = g.bound := rfl
@[simp] theorem Group.enterHeld_source (g : Group) : g.enterHeld.source = g.source := rfl
@[simp] theorem Group.enterHeld_expected (g : Group) : g.enterHeld.expected = g.expected := rfl
@[simp] theorem Group.enterHeld_outSeq (g : Group) : g.enterHeld.outSeq = g.outSeq := rfl
@[simp] theorem Group.enterHeld_env (g : Group) : g.enterHeld.env = g.env := rfl
@[simp] theorem Group.enterHeld_level (g : Group) : g.enterHeld.level = g.level := rfl
@[simp] theorem Group.enterHeld_att (g : Group) : g.enterHeld.att = g.att := rfl
@[simp] theorem Group.enterHeld_retryCount (g : Group) : g.enterHeld.retryCount = g.retryCount := rfl
@[simp] theorem Group.enterHeld_retryTimer (g : Group) : g.enterHeld.retryTimer = g.retryTimer := rfl
@[simp] theorem Group.enterHeld_resume (g : Group) : g.enterHeld.resume = g.resume := rfl
@[simp] theorem Group.enterHeld_streak (g : Group) : g.enterHeld.streak = g.streak := rfl
@[simp] theorem Group.enterHeld_sinceFb (g : Group) : g.enterHeld.sinceFb = g.sinceFb := rfl
@[simp] theorem Group.enterHeld_telemCount (g : Group) : g.enterHeld.telemCount = g.telemCount := rfl
@[simp] theorem Group.enterHeld_genDone (g : Group) : g.enterHeld.genDone = g.genDone := rfl
@[simp] theorem Group.enterHeld_tallies (g : Group) : g.enterHeld.tallies = g.tallies := rfl
@[simp] theorem Group.enterHeld_latched (g : Group) : g.enterHeld.latched = g.latched := rfl
@[simp] theorem Group.enterHeld_firstTrip (g : Group) : g.enterHeld.firstTrip = g.firstTrip := rfl
@[simp] theorem Group.enterHeld_action (g : Group) : g.enterHeld.action = g.action := rfl
@[simp] theorem Group.enterHeld_target (g : Group) : g.enterHeld.target = g.target := rfl
@[simp] theorem Group.enterHeld_cfg (g : Group) : g.enterHeld.cfg = g.cfg := rfl
@[simp] theorem Group.enterHeld_gen (g : Group) : g.enterHeld.gen = g.gen := rfl
@[simp] theorem Group.enterHeld_genRun (g : Group) : g.enterHeld.genRun = g.genRun := rfl
@[simp] theorem Group.enterHeld_queue (g : Group) : g.enterHeld.queue = g.queue := rfl
@[simp] theorem Group.enterHeld_lastEcho (g : Group) : g.enterHeld.lastEcho = g.lastEcho := rfl
@[simp] theorem Group.enterHeld_chans (g : Group) :
    g.enterHeld.chans = g.freeze.chans := rfl
@[simp] theorem Group.enterHeld_ctr (g : Group) : g.enterHeld.ctr = g.ctr := rfl

@[simp] theorem Group.enterFadeIn_state (g : Group) :
    g.enterFadeIn.state = .fadeIn := rfl
@[simp] theorem Group.enterFadeIn_bound (g : Group) : g.enterFadeIn.bound = g.bound := rfl
@[simp] theorem Group.enterFadeIn_source (g : Group) : g.enterFadeIn.source = g.source := rfl
@[simp] theorem Group.enterFadeIn_expected (g : Group) : g.enterFadeIn.expected = g.expected := rfl
@[simp] theorem Group.enterFadeIn_outSeq (g : Group) : g.enterFadeIn.outSeq = g.outSeq := rfl
@[simp] theorem Group.enterFadeIn_env (g : Group) : g.enterFadeIn.env = g.env := rfl
@[simp] theorem Group.enterFadeIn_level (g : Group) : g.enterFadeIn.level = g.level := rfl
@[simp] theorem Group.enterFadeIn_att (g : Group) : g.enterFadeIn.att = g.att := rfl
@[simp] theorem Group.enterFadeIn_retryCount (g : Group) : g.enterFadeIn.retryCount =
    g.retryCount := rfl
@[simp] theorem Group.enterFadeIn_retryTimer (g : Group) : g.enterFadeIn.retryTimer =
    g.retryTimer := rfl
@[simp] theorem Group.enterFadeIn_resume (g : Group) : g.enterFadeIn.resume = g.resume := rfl
@[simp] theorem Group.enterFadeIn_streak (g : Group) :
    g.enterFadeIn.streak = 0 := rfl
@[simp] theorem Group.enterFadeIn_sinceFb (g : Group) : g.enterFadeIn.sinceFb = g.sinceFb := rfl
@[simp] theorem Group.enterFadeIn_telemCount (g : Group) : g.enterFadeIn.telemCount =
    g.telemCount := rfl
@[simp] theorem Group.enterFadeIn_genDone (g : Group) : g.enterFadeIn.genDone = g.genDone := rfl
@[simp] theorem Group.enterFadeIn_tallies (g : Group) : g.enterFadeIn.tallies = g.tallies := rfl
@[simp] theorem Group.enterFadeIn_latched (g : Group) : g.enterFadeIn.latched = g.latched := rfl
@[simp] theorem Group.enterFadeIn_firstTrip (g : Group) : g.enterFadeIn.firstTrip = g.firstTrip := rfl
@[simp] theorem Group.enterFadeIn_action (g : Group) : g.enterFadeIn.action = g.action := rfl
@[simp] theorem Group.enterFadeIn_target (g : Group) : g.enterFadeIn.target = g.target := rfl
@[simp] theorem Group.enterFadeIn_cfg (g : Group) : g.enterFadeIn.cfg = g.cfg := rfl
@[simp] theorem Group.enterFadeIn_gen (g : Group) : g.enterFadeIn.gen = g.gen := rfl
@[simp] theorem Group.enterFadeIn_genRun (g : Group) : g.enterFadeIn.genRun = g.genRun := rfl
@[simp] theorem Group.enterFadeIn_queue (g : Group) : g.enterFadeIn.queue = g.queue := rfl
@[simp] theorem Group.enterFadeIn_lastEcho (g : Group) : g.enterFadeIn.lastEcho = g.lastEcho := rfl
@[simp] theorem Group.enterFadeIn_chans (g : Group) :
    g.enterFadeIn.chans = g.chans.map fun c => { c with persist := 0 } := rfl
@[simp] theorem Group.enterFadeIn_ctr (g : Group) : g.enterFadeIn.ctr = g.ctr := rfl

@[simp] theorem Group.enterRetryWait_state (g : Group) :
    g.enterRetryWait.state = .retryWait := rfl
@[simp] theorem Group.enterRetryWait_bound (g : Group) : g.enterRetryWait.bound = g.bound := rfl
@[simp] theorem Group.enterRetryWait_source (g : Group) : g.enterRetryWait.source = g.source := rfl
@[simp] theorem Group.enterRetryWait_expected (g : Group) : g.enterRetryWait.expected =
    g.expected := rfl
@[simp] theorem Group.enterRetryWait_outSeq (g : Group) : g.enterRetryWait.outSeq = g.outSeq := rfl
@[simp] theorem Group.enterRetryWait_env (g : Group) :
    g.enterRetryWait.env = 0 := rfl
@[simp] theorem Group.enterRetryWait_level (g : Group) : g.enterRetryWait.level = g.level := rfl
@[simp] theorem Group.enterRetryWait_att (g : Group) : g.enterRetryWait.att = g.att := rfl
@[simp] theorem Group.enterRetryWait_retryCount (g : Group) :
    g.enterRetryWait.retryCount = g.retryCount + 1 := rfl
@[simp] theorem Group.enterRetryWait_retryTimer (g : Group) :
    g.enterRetryWait.retryTimer = g.cfg.retryTime := rfl
@[simp] theorem Group.enterRetryWait_resume (g : Group) : g.enterRetryWait.resume = g.resume := rfl
@[simp] theorem Group.enterRetryWait_streak (g : Group) : g.enterRetryWait.streak = g.streak := rfl
@[simp] theorem Group.enterRetryWait_sinceFb (g : Group) : g.enterRetryWait.sinceFb = g.sinceFb := rfl
@[simp] theorem Group.enterRetryWait_telemCount (g : Group) : g.enterRetryWait.telemCount =
    g.telemCount := rfl
@[simp] theorem Group.enterRetryWait_genDone (g : Group) : g.enterRetryWait.genDone = g.genDone := rfl
@[simp] theorem Group.enterRetryWait_tallies (g : Group) : g.enterRetryWait.tallies = g.tallies := rfl
@[simp] theorem Group.enterRetryWait_latched (g : Group) : g.enterRetryWait.latched = g.latched := rfl
@[simp] theorem Group.enterRetryWait_firstTrip (g : Group) : g.enterRetryWait.firstTrip =
    g.firstTrip := rfl
@[simp] theorem Group.enterRetryWait_action (g : Group) : g.enterRetryWait.action = g.action := rfl
@[simp] theorem Group.enterRetryWait_target (g : Group) : g.enterRetryWait.target = g.target := rfl
@[simp] theorem Group.enterRetryWait_cfg (g : Group) : g.enterRetryWait.cfg = g.cfg := rfl
@[simp] theorem Group.enterRetryWait_gen (g : Group) : g.enterRetryWait.gen = g.gen := rfl
@[simp] theorem Group.enterRetryWait_genRun (g : Group) : g.enterRetryWait.genRun = g.genRun := rfl
@[simp] theorem Group.enterRetryWait_queue (g : Group) : g.enterRetryWait.queue = g.queue := rfl
@[simp] theorem Group.enterRetryWait_lastEcho (g : Group) : g.enterRetryWait.lastEcho =
    g.lastEcho := rfl
@[simp] theorem Group.enterRetryWait_chans (g : Group) : g.enterRetryWait.chans = g.chans := rfl
@[simp] theorem Group.enterRetryWait_ctr (g : Group) : g.enterRetryWait.ctr = g.ctr := rfl

@[simp] theorem Group.completeFadeOut_state (g : Group) :
    g.completeFadeOut.state = .armed := rfl
@[simp] theorem Group.completeFadeOut_bound (g : Group) : g.completeFadeOut.bound = g.bound := rfl
@[simp] theorem Group.completeFadeOut_source (g : Group) :
    g.completeFadeOut.source = .stream := rfl
@[simp] theorem Group.completeFadeOut_expected (g : Group) :
    g.completeFadeOut.expected = none := rfl
@[simp] theorem Group.completeFadeOut_outSeq (g : Group) : g.completeFadeOut.outSeq = g.outSeq := rfl
@[simp] theorem Group.completeFadeOut_env (g : Group) : g.completeFadeOut.env = g.env := rfl
@[simp] theorem Group.completeFadeOut_level (g : Group) : g.completeFadeOut.level = g.level := rfl
@[simp] theorem Group.completeFadeOut_att (g : Group) : g.completeFadeOut.att = g.att := rfl
@[simp] theorem Group.completeFadeOut_retryCount (g : Group) : g.completeFadeOut.retryCount =
    g.retryCount := rfl
@[simp] theorem Group.completeFadeOut_retryTimer (g : Group) : g.completeFadeOut.retryTimer =
    g.retryTimer := rfl
@[simp] theorem Group.completeFadeOut_resume (g : Group) : g.completeFadeOut.resume = g.resume := rfl
@[simp] theorem Group.completeFadeOut_streak (g : Group) :
    g.completeFadeOut.streak = 0 := rfl
@[simp] theorem Group.completeFadeOut_sinceFb (g : Group) : g.completeFadeOut.sinceFb = g.sinceFb := rfl
@[simp] theorem Group.completeFadeOut_telemCount (g : Group) : g.completeFadeOut.telemCount =
    g.telemCount := rfl
@[simp] theorem Group.completeFadeOut_genDone (g : Group) : g.completeFadeOut.genDone = g.genDone := rfl
@[simp] theorem Group.completeFadeOut_tallies (g : Group) :
    g.completeFadeOut.tallies = g.flush.tallies := rfl
@[simp] theorem Group.completeFadeOut_latched (g : Group) : g.completeFadeOut.latched = g.latched := rfl
@[simp] theorem Group.completeFadeOut_firstTrip (g : Group) : g.completeFadeOut.firstTrip =
    g.firstTrip := rfl
@[simp] theorem Group.completeFadeOut_action (g : Group) : g.completeFadeOut.action = g.action := rfl
@[simp] theorem Group.completeFadeOut_target (g : Group) : g.completeFadeOut.target = g.target := rfl
@[simp] theorem Group.completeFadeOut_cfg (g : Group) : g.completeFadeOut.cfg = g.cfg := rfl
@[simp] theorem Group.completeFadeOut_gen (g : Group) : g.completeFadeOut.gen = g.gen := rfl
@[simp] theorem Group.completeFadeOut_genRun (g : Group) : g.completeFadeOut.genRun = g.genRun := rfl
@[simp] theorem Group.completeFadeOut_queue (g : Group) :
    g.completeFadeOut.queue = [] := rfl
@[simp] theorem Group.completeFadeOut_lastEcho (g : Group) : g.completeFadeOut.lastEcho =
    g.lastEcho := rfl
@[simp] theorem Group.completeFadeOut_chans (g : Group) : g.completeFadeOut.chans = g.chans := rfl
@[simp] theorem Group.completeFadeOut_ctr (g : Group) : g.completeFadeOut.ctr = g.ctr := rfl

@[simp] theorem Group.demote_state (g : Group) : g.demote.state = g.state := rfl
@[simp] theorem Group.demote_bound (g : Group) : g.demote.bound = g.bound := rfl
@[simp] theorem Group.demote_source (g : Group) : g.demote.source = g.source := rfl
@[simp] theorem Group.demote_expected (g : Group) : g.demote.expected = g.expected := rfl
@[simp] theorem Group.demote_outSeq (g : Group) : g.demote.outSeq = g.outSeq := rfl
@[simp] theorem Group.demote_env (g : Group) : g.demote.env = g.env := rfl
@[simp] theorem Group.demote_level (g : Group) : g.demote.level = g.level := rfl
@[simp] theorem Group.demote_att (g : Group) : g.demote.att = g.att := rfl
@[simp] theorem Group.demote_retryCount (g : Group) : g.demote.retryCount = g.retryCount := rfl
@[simp] theorem Group.demote_retryTimer (g : Group) : g.demote.retryTimer = g.retryTimer := rfl
@[simp] theorem Group.demote_resume (g : Group) : g.demote.resume = g.resume := rfl
@[simp] theorem Group.demote_streak (g : Group) : g.demote.streak = g.streak := rfl
@[simp] theorem Group.demote_sinceFb (g : Group) : g.demote.sinceFb = g.sinceFb := rfl
@[simp] theorem Group.demote_telemCount (g : Group) : g.demote.telemCount = g.telemCount := rfl
@[simp] theorem Group.demote_genDone (g : Group) : g.demote.genDone = g.genDone := rfl
@[simp] theorem Group.demote_tallies (g : Group) : g.demote.tallies = g.tallies := rfl
@[simp] theorem Group.demote_firstTrip (g : Group) : g.demote.firstTrip = g.firstTrip := rfl
@[simp] theorem Group.demote_action (g : Group) : g.demote.action = g.action := rfl
@[simp] theorem Group.demote_target (g : Group) : g.demote.target = g.target := rfl
@[simp] theorem Group.demote_cfg (g : Group) : g.demote.cfg = g.cfg := rfl
@[simp] theorem Group.demote_gen (g : Group) : g.demote.gen = g.gen := rfl
@[simp] theorem Group.demote_genRun (g : Group) : g.demote.genRun = g.genRun := rfl
@[simp] theorem Group.demote_queue (g : Group) : g.demote.queue = g.queue := rfl
@[simp] theorem Group.demote_lastEcho (g : Group) : g.demote.lastEcho = g.lastEcho := rfl
@[simp] theorem Group.demote_chans (g : Group) : g.demote.chans = g.chans := rfl
@[simp] theorem Group.demote_ctr (g : Group) : g.demote.ctr = g.ctr := rfl

@[simp] theorem Group.latch_state (g : Group) (k : Kind) (c : FaultClass) : (g.latch k c).state =
    g.state := rfl
@[simp] theorem Group.latch_bound (g : Group) (k : Kind) (c : FaultClass) : (g.latch k c).bound =
    g.bound := rfl
@[simp] theorem Group.latch_source (g : Group) (k : Kind) (c : FaultClass) : (g.latch k c).source =
    g.source := rfl
@[simp] theorem Group.latch_expected (g : Group) (k : Kind) (c : FaultClass) : (g.latch k c).expected =
    g.expected := rfl
@[simp] theorem Group.latch_outSeq (g : Group) (k : Kind) (c : FaultClass) : (g.latch k c).outSeq =
    g.outSeq := rfl
@[simp] theorem Group.latch_env (g : Group) (k : Kind) (c : FaultClass) : (g.latch k c).env =
    g.env := rfl
@[simp] theorem Group.latch_level (g : Group) (k : Kind) (c : FaultClass) : (g.latch k c).level =
    g.level := rfl
@[simp] theorem Group.latch_att (g : Group) (k : Kind) (c : FaultClass) : (g.latch k c).att =
    g.att := rfl
@[simp] theorem Group.latch_retryCount (g : Group) (k : Kind) (c : FaultClass) : (g.latch k c).retryCount =
    g.retryCount := rfl
@[simp] theorem Group.latch_retryTimer (g : Group) (k : Kind) (c : FaultClass) : (g.latch k c).retryTimer =
    g.retryTimer := rfl
@[simp] theorem Group.latch_resume (g : Group) (k : Kind) (c : FaultClass) : (g.latch k c).resume =
    g.resume := rfl
@[simp] theorem Group.latch_streak (g : Group) (k : Kind) (c : FaultClass) : (g.latch k c).streak =
    g.streak := rfl
@[simp] theorem Group.latch_sinceFb (g : Group) (k : Kind) (c : FaultClass) : (g.latch k c).sinceFb =
    g.sinceFb := rfl
@[simp] theorem Group.latch_telemCount (g : Group) (k : Kind) (c : FaultClass) : (g.latch k c).telemCount =
    g.telemCount := rfl
@[simp] theorem Group.latch_genDone (g : Group) (k : Kind) (c : FaultClass) : (g.latch k c).genDone =
    g.genDone := rfl
@[simp] theorem Group.latch_tallies (g : Group) (k : Kind) (c : FaultClass) : (g.latch k c).tallies =
    g.tallies := rfl
@[simp] theorem Group.latch_latched (g : Group) (k : Kind) (c : FaultClass) :
    (g.latch k c).latched = g.latched.set k.ix (joinClass (g.classOf k) c) := rfl
@[simp] theorem Group.latch_firstTrip (g : Group) (k : Kind) (c : FaultClass) : (g.latch k c).firstTrip =
    g.firstTrip := rfl
@[simp] theorem Group.latch_action (g : Group) (k : Kind) (c : FaultClass) : (g.latch k c).action =
    g.action := rfl
@[simp] theorem Group.latch_target (g : Group) (k : Kind) (c : FaultClass) : (g.latch k c).target =
    g.target := rfl
@[simp] theorem Group.latch_cfg (g : Group) (k : Kind) (c : FaultClass) : (g.latch k c).cfg =
    g.cfg := rfl
@[simp] theorem Group.latch_gen (g : Group) (k : Kind) (c : FaultClass) : (g.latch k c).gen =
    g.gen := rfl
@[simp] theorem Group.latch_genRun (g : Group) (k : Kind) (c : FaultClass) : (g.latch k c).genRun =
    g.genRun := rfl
@[simp] theorem Group.latch_queue (g : Group) (k : Kind) (c : FaultClass) : (g.latch k c).queue =
    g.queue := rfl
@[simp] theorem Group.latch_lastEcho (g : Group) (k : Kind) (c : FaultClass) : (g.latch k c).lastEcho =
    g.lastEcho := rfl
@[simp] theorem Group.latch_chans (g : Group) (k : Kind) (c : FaultClass) : (g.latch k c).chans =
    g.chans := rfl
@[simp] theorem Group.latch_ctr (g : Group) (k : Kind) (c : FaultClass) : (g.latch k c).ctr =
    g.ctr := rfl

@[simp] theorem Group.recordTrip_state (g : Group) (ev : MonEvent) (r : Bool) : (g.recordTrip ev r).state =
    g.state := rfl
@[simp] theorem Group.recordTrip_bound (g : Group) (ev : MonEvent) (r : Bool) : (g.recordTrip ev r).bound =
    g.bound := rfl
@[simp] theorem Group.recordTrip_source (g : Group) (ev : MonEvent) (r : Bool) : (g.recordTrip ev r).source =
    g.source := rfl
@[simp] theorem Group.recordTrip_expected (g : Group) (ev : MonEvent) (r : Bool) : (g.recordTrip ev r).expected =
    g.expected := rfl
@[simp] theorem Group.recordTrip_outSeq (g : Group) (ev : MonEvent) (r : Bool) : (g.recordTrip ev r).outSeq =
    g.outSeq := rfl
@[simp] theorem Group.recordTrip_env (g : Group) (ev : MonEvent) (r : Bool) : (g.recordTrip ev r).env =
    g.env := rfl
@[simp] theorem Group.recordTrip_level (g : Group) (ev : MonEvent) (r : Bool) : (g.recordTrip ev r).level =
    g.level := rfl
@[simp] theorem Group.recordTrip_att (g : Group) (ev : MonEvent) (r : Bool) : (g.recordTrip ev r).att =
    g.att := rfl
@[simp] theorem Group.recordTrip_retryCount (g : Group) (ev : MonEvent) (r : Bool) : (g.recordTrip ev r).retryCount =
    g.retryCount := rfl
@[simp] theorem Group.recordTrip_retryTimer (g : Group) (ev : MonEvent) (r : Bool) : (g.recordTrip ev r).retryTimer =
    g.retryTimer := rfl
@[simp] theorem Group.recordTrip_resume (g : Group) (ev : MonEvent) (r : Bool) : (g.recordTrip ev r).resume =
    g.resume := rfl
@[simp] theorem Group.recordTrip_streak (g : Group) (ev : MonEvent) (r : Bool) : (g.recordTrip ev r).streak =
    g.streak := rfl
@[simp] theorem Group.recordTrip_sinceFb (g : Group) (ev : MonEvent) (r : Bool) : (g.recordTrip ev r).sinceFb =
    g.sinceFb := rfl
@[simp] theorem Group.recordTrip_telemCount (g : Group) (ev : MonEvent) (r : Bool) : (g.recordTrip ev r).telemCount =
    g.telemCount := rfl
@[simp] theorem Group.recordTrip_genDone (g : Group) (ev : MonEvent) (r : Bool) : (g.recordTrip ev r).genDone =
    g.genDone := rfl
@[simp] theorem Group.recordTrip_tallies (g : Group) (ev : MonEvent) (r : Bool) : (g.recordTrip ev r).tallies =
    g.tallies := rfl
@[simp] theorem Group.recordTrip_latched (g : Group) (ev : MonEvent) (r : Bool) :
    (g.recordTrip ev r).latched = (g.latch ev.kind .action).latched := rfl
@[simp] theorem Group.recordTrip_action (g : Group) (ev : MonEvent) (r : Bool) : (g.recordTrip ev r).action =
    g.action := rfl
@[simp] theorem Group.recordTrip_target (g : Group) (ev : MonEvent) (r : Bool) : (g.recordTrip ev r).target =
    g.target := rfl
@[simp] theorem Group.recordTrip_cfg (g : Group) (ev : MonEvent) (r : Bool) : (g.recordTrip ev r).cfg =
    g.cfg := rfl
@[simp] theorem Group.recordTrip_gen (g : Group) (ev : MonEvent) (r : Bool) : (g.recordTrip ev r).gen =
    g.gen := rfl
@[simp] theorem Group.recordTrip_genRun (g : Group) (ev : MonEvent) (r : Bool) : (g.recordTrip ev r).genRun =
    g.genRun := rfl
@[simp] theorem Group.recordTrip_queue (g : Group) (ev : MonEvent) (r : Bool) : (g.recordTrip ev r).queue =
    g.queue := rfl
@[simp] theorem Group.recordTrip_lastEcho (g : Group) (ev : MonEvent) (r : Bool) : (g.recordTrip ev r).lastEcho =
    g.lastEcho := rfl
@[simp] theorem Group.recordTrip_chans (g : Group) (ev : MonEvent) (r : Bool) : (g.recordTrip ev r).chans =
    g.chans := rfl
@[simp] theorem Group.recordTrip_ctr (g : Group) (ev : MonEvent) (r : Bool) :
    (g.recordTrip ev r).ctr = { g.ctr with trips := satAdd g.ctr.trips 1 } := rfl

@[simp] theorem Group.advance_state (g : Group) : g.advance.state = g.state := rfl
@[simp] theorem Group.advance_bound (g : Group) : g.advance.bound = g.bound := rfl
@[simp] theorem Group.advance_source (g : Group) : g.advance.source = g.source := rfl
@[simp] theorem Group.advance_expected (g : Group) : g.advance.expected = g.expected := rfl
@[simp] theorem Group.advance_outSeq (g : Group) :
    g.advance.outSeq = g.outSeq + 1 := rfl
@[simp] theorem Group.advance_env (g : Group) : g.advance.env = g.env := rfl
@[simp] theorem Group.advance_level (g : Group) : g.advance.level = g.level := rfl
@[simp] theorem Group.advance_att (g : Group) : g.advance.att = g.att := rfl
@[simp] theorem Group.advance_retryCount (g : Group) : g.advance.retryCount = g.retryCount := rfl
@[simp] theorem Group.advance_retryTimer (g : Group) : g.advance.retryTimer = g.retryTimer := rfl
@[simp] theorem Group.advance_resume (g : Group) : g.advance.resume = g.resume := rfl
@[simp] theorem Group.advance_streak (g : Group) : g.advance.streak = g.streak := rfl
@[simp] theorem Group.advance_sinceFb (g : Group) : g.advance.sinceFb = g.sinceFb := rfl
@[simp] theorem Group.advance_telemCount (g : Group) : g.advance.telemCount = g.telemCount := rfl
@[simp] theorem Group.advance_genDone (g : Group) : g.advance.genDone = g.genDone := rfl
@[simp] theorem Group.advance_tallies (g : Group) : g.advance.tallies = g.tallies := rfl
@[simp] theorem Group.advance_latched (g : Group) : g.advance.latched = g.latched := rfl
@[simp] theorem Group.advance_firstTrip (g : Group) : g.advance.firstTrip = g.firstTrip := rfl
@[simp] theorem Group.advance_action (g : Group) : g.advance.action = g.action := rfl
@[simp] theorem Group.advance_target (g : Group) : g.advance.target = g.target := rfl
@[simp] theorem Group.advance_cfg (g : Group) : g.advance.cfg = g.cfg := rfl
@[simp] theorem Group.advance_gen (g : Group) : g.advance.gen = g.gen := rfl
@[simp] theorem Group.advance_genRun (g : Group) : g.advance.genRun = g.genRun := rfl
@[simp] theorem Group.advance_queue (g : Group) : g.advance.queue = g.queue := rfl
@[simp] theorem Group.advance_lastEcho (g : Group) : g.advance.lastEcho = g.lastEcho := rfl
@[simp] theorem Group.advance_chans (g : Group) : g.advance.chans = g.chans := rfl
@[simp] theorem Group.advance_ctr (g : Group) :
    g.advance.ctr = { g.ctr with playouts := satAdd g.ctr.playouts 1 } := rfl

@[simp] theorem Group.generate_state (g : Group) : g.generate.state = g.state := rfl
@[simp] theorem Group.generate_bound (g : Group) : g.generate.bound = g.bound := rfl
@[simp] theorem Group.generate_source (g : Group) : g.generate.source = g.source := rfl
@[simp] theorem Group.generate_expected (g : Group) : g.generate.expected = g.expected := rfl
@[simp] theorem Group.generate_outSeq (g : Group) : g.generate.outSeq = g.outSeq := rfl
@[simp] theorem Group.generate_env (g : Group) : g.generate.env = g.env := rfl
@[simp] theorem Group.generate_level (g : Group) : g.generate.level = g.level := rfl
@[simp] theorem Group.generate_att (g : Group) : g.generate.att = g.att := rfl
@[simp] theorem Group.generate_retryCount (g : Group) : g.generate.retryCount = g.retryCount := rfl
@[simp] theorem Group.generate_retryTimer (g : Group) : g.generate.retryTimer = g.retryTimer := rfl
@[simp] theorem Group.generate_resume (g : Group) : g.generate.resume = g.resume := rfl
@[simp] theorem Group.generate_streak (g : Group) : g.generate.streak = g.streak := rfl
@[simp] theorem Group.generate_sinceFb (g : Group) : g.generate.sinceFb = g.sinceFb := rfl
@[simp] theorem Group.generate_telemCount (g : Group) : g.generate.telemCount = g.telemCount := rfl
@[simp] theorem Group.generate_genDone (g : Group) : g.generate.genDone = g.genDone := rfl
@[simp] theorem Group.generate_tallies (g : Group) : g.generate.tallies = g.tallies := rfl
@[simp] theorem Group.generate_latched (g : Group) : g.generate.latched = g.latched := rfl
@[simp] theorem Group.generate_firstTrip (g : Group) : g.generate.firstTrip = g.firstTrip := rfl
@[simp] theorem Group.generate_action (g : Group) : g.generate.action = g.action := rfl
@[simp] theorem Group.generate_target (g : Group) : g.generate.target = g.target := rfl
@[simp] theorem Group.generate_cfg (g : Group) : g.generate.cfg = g.cfg := rfl
@[simp] theorem Group.generate_gen (g : Group) : g.generate.gen = g.gen := rfl
@[simp] theorem Group.generate_genRun (g : Group) :
    g.generate.genRun = genAdvance g.gen g.state.running g.genRun := rfl
@[simp] theorem Group.generate_queue (g : Group) : g.generate.queue = g.queue := rfl
@[simp] theorem Group.generate_lastEcho (g : Group) : g.generate.lastEcho = g.lastEcho := rfl
@[simp] theorem Group.generate_ctr (g : Group) : g.generate.ctr = g.ctr := rfl

@[simp] theorem Group.stepEnv_state (g : Group) : g.stepEnv.state = g.state := rfl
@[simp] theorem Group.stepEnv_bound (g : Group) : g.stepEnv.bound = g.bound := rfl
@[simp] theorem Group.stepEnv_source (g : Group) : g.stepEnv.source = g.source := rfl
@[simp] theorem Group.stepEnv_expected (g : Group) : g.stepEnv.expected = g.expected := rfl
@[simp] theorem Group.stepEnv_outSeq (g : Group) : g.stepEnv.outSeq = g.outSeq := rfl
@[simp] theorem Group.stepEnv_env (g : Group) :
    g.stepEnv.env = g.nextEnv := rfl
@[simp] theorem Group.stepEnv_level (g : Group) : g.stepEnv.level = g.level := rfl
@[simp] theorem Group.stepEnv_att (g : Group) : g.stepEnv.att = g.att := rfl
@[simp] theorem Group.stepEnv_retryCount (g : Group) : g.stepEnv.retryCount = g.retryCount := rfl
@[simp] theorem Group.stepEnv_retryTimer (g : Group) : g.stepEnv.retryTimer = g.retryTimer := rfl
@[simp] theorem Group.stepEnv_resume (g : Group) : g.stepEnv.resume = g.resume := rfl
@[simp] theorem Group.stepEnv_streak (g : Group) : g.stepEnv.streak = g.streak := rfl
@[simp] theorem Group.stepEnv_sinceFb (g : Group) : g.stepEnv.sinceFb = g.sinceFb := rfl
@[simp] theorem Group.stepEnv_telemCount (g : Group) : g.stepEnv.telemCount = g.telemCount := rfl
@[simp] theorem Group.stepEnv_genDone (g : Group) : g.stepEnv.genDone = g.genDone := rfl
@[simp] theorem Group.stepEnv_tallies (g : Group) : g.stepEnv.tallies = g.tallies := rfl
@[simp] theorem Group.stepEnv_latched (g : Group) : g.stepEnv.latched = g.latched := rfl
@[simp] theorem Group.stepEnv_firstTrip (g : Group) : g.stepEnv.firstTrip = g.firstTrip := rfl
@[simp] theorem Group.stepEnv_action (g : Group) : g.stepEnv.action = g.action := rfl
@[simp] theorem Group.stepEnv_target (g : Group) : g.stepEnv.target = g.target := rfl
@[simp] theorem Group.stepEnv_cfg (g : Group) : g.stepEnv.cfg = g.cfg := rfl
@[simp] theorem Group.stepEnv_gen (g : Group) : g.stepEnv.gen = g.gen := rfl
@[simp] theorem Group.stepEnv_genRun (g : Group) : g.stepEnv.genRun = g.genRun := rfl
@[simp] theorem Group.stepEnv_queue (g : Group) : g.stepEnv.queue = g.queue := rfl
@[simp] theorem Group.stepEnv_lastEcho (g : Group) : g.stepEnv.lastEcho = g.lastEcho := rfl
@[simp] theorem Group.stepEnv_chans (g : Group) : g.stepEnv.chans = g.chans := rfl
@[simp] theorem Group.stepEnv_ctr (g : Group) : g.stepEnv.ctr = g.ctr := rfl

@[simp] theorem Group.condition_state (g : Group) : g.condition.state = g.state := rfl
@[simp] theorem Group.condition_bound (g : Group) : g.condition.bound = g.bound := rfl
@[simp] theorem Group.condition_source (g : Group) : g.condition.source = g.source := rfl
@[simp] theorem Group.condition_expected (g : Group) : g.condition.expected = g.expected := rfl
@[simp] theorem Group.condition_outSeq (g : Group) : g.condition.outSeq = g.outSeq := rfl
@[simp] theorem Group.condition_env (g : Group) : g.condition.env = g.env := rfl
@[simp] theorem Group.condition_level (g : Group) : g.condition.level = g.level := rfl
@[simp] theorem Group.condition_att (g : Group) :
    g.condition.att = g.nextAtt := rfl
@[simp] theorem Group.condition_retryCount (g : Group) : g.condition.retryCount = g.retryCount := rfl
@[simp] theorem Group.condition_retryTimer (g : Group) : g.condition.retryTimer = g.retryTimer := rfl
@[simp] theorem Group.condition_resume (g : Group) : g.condition.resume = g.resume := rfl
@[simp] theorem Group.condition_streak (g : Group) : g.condition.streak = g.streak := rfl
@[simp] theorem Group.condition_sinceFb (g : Group) : g.condition.sinceFb = g.sinceFb := rfl
@[simp] theorem Group.condition_telemCount (g : Group) : g.condition.telemCount = g.telemCount := rfl
@[simp] theorem Group.condition_genDone (g : Group) : g.condition.genDone = g.genDone := rfl
@[simp] theorem Group.condition_tallies (g : Group) : g.condition.tallies = g.tallies := rfl
@[simp] theorem Group.condition_latched (g : Group) : g.condition.latched = g.latched := rfl
@[simp] theorem Group.condition_firstTrip (g : Group) : g.condition.firstTrip = g.firstTrip := rfl
@[simp] theorem Group.condition_action (g : Group) : g.condition.action = g.action := rfl
@[simp] theorem Group.condition_target (g : Group) : g.condition.target = g.target := rfl
@[simp] theorem Group.condition_cfg (g : Group) : g.condition.cfg = g.cfg := rfl
@[simp] theorem Group.condition_gen (g : Group) : g.condition.gen = g.gen := rfl
@[simp] theorem Group.condition_genRun (g : Group) : g.condition.genRun = g.genRun := rfl
@[simp] theorem Group.condition_queue (g : Group) : g.condition.queue = g.queue := rfl
@[simp] theorem Group.condition_lastEcho (g : Group) : g.condition.lastEcho = g.lastEcho := rfl
@[simp] theorem Group.condition_chans (g : Group) :
    g.condition.chans = g.outputs := rfl
@[simp] theorem Group.condition_ctr (g : Group) : g.condition.ctr = g.ctr := rfl

@[simp] theorem Group.completeBurst_state (g : Group) :
    g.completeBurst.state = .fadeOut := rfl
@[simp] theorem Group.completeBurst_bound (g : Group) : g.completeBurst.bound = g.bound := rfl
@[simp] theorem Group.completeBurst_source (g : Group) : g.completeBurst.source = g.source := rfl
@[simp] theorem Group.completeBurst_expected (g : Group) : g.completeBurst.expected = g.expected := rfl
@[simp] theorem Group.completeBurst_outSeq (g : Group) : g.completeBurst.outSeq = g.outSeq := rfl
@[simp] theorem Group.completeBurst_env (g : Group) : g.completeBurst.env = g.env := rfl
@[simp] theorem Group.completeBurst_level (g : Group) : g.completeBurst.level = g.level := rfl
@[simp] theorem Group.completeBurst_att (g : Group) : g.completeBurst.att = g.att := rfl
@[simp] theorem Group.completeBurst_retryCount (g : Group) : g.completeBurst.retryCount =
    g.retryCount := rfl
@[simp] theorem Group.completeBurst_retryTimer (g : Group) : g.completeBurst.retryTimer =
    g.retryTimer := rfl
@[simp] theorem Group.completeBurst_resume (g : Group) : g.completeBurst.resume = g.resume := rfl
@[simp] theorem Group.completeBurst_streak (g : Group) : g.completeBurst.streak = g.streak := rfl
@[simp] theorem Group.completeBurst_sinceFb (g : Group) : g.completeBurst.sinceFb = g.sinceFb := rfl
@[simp] theorem Group.completeBurst_telemCount (g : Group) : g.completeBurst.telemCount =
    g.telemCount := rfl
@[simp] theorem Group.completeBurst_genDone (g : Group) :
    g.completeBurst.genDone = true := rfl
@[simp] theorem Group.completeBurst_tallies (g : Group) : g.completeBurst.tallies = g.tallies := rfl
@[simp] theorem Group.completeBurst_latched (g : Group) : g.completeBurst.latched = g.latched := rfl
@[simp] theorem Group.completeBurst_firstTrip (g : Group) : g.completeBurst.firstTrip =
    g.firstTrip := rfl
@[simp] theorem Group.completeBurst_action (g : Group) : g.completeBurst.action = g.action := rfl
@[simp] theorem Group.completeBurst_target (g : Group) : g.completeBurst.target = g.target := rfl
@[simp] theorem Group.completeBurst_cfg (g : Group) : g.completeBurst.cfg = g.cfg := rfl
@[simp] theorem Group.completeBurst_gen (g : Group) : g.completeBurst.gen = g.gen := rfl
@[simp] theorem Group.completeBurst_genRun (g : Group) :
    g.completeBurst.genRun = { g.genRun with ended := true } := rfl
@[simp] theorem Group.completeBurst_queue (g : Group) : g.completeBurst.queue = g.queue := rfl
@[simp] theorem Group.completeBurst_lastEcho (g : Group) : g.completeBurst.lastEcho = g.lastEcho := rfl
@[simp] theorem Group.completeBurst_chans (g : Group) : g.completeBurst.chans = g.chans := rfl
@[simp] theorem Group.completeBurst_ctr (g : Group) : g.completeBurst.ctr = g.ctr := rfl

@[simp] theorem Group.acceptEcho_state (g : Group) (w : Seq) : (g.acceptEcho w).state = g.state := rfl
@[simp] theorem Group.acceptEcho_bound (g : Group) (w : Seq) : (g.acceptEcho w).bound = g.bound := rfl
@[simp] theorem Group.acceptEcho_source (g : Group) (w : Seq) : (g.acceptEcho w).source =
    g.source := rfl
@[simp] theorem Group.acceptEcho_expected (g : Group) (w : Seq) : (g.acceptEcho w).expected =
    g.expected := rfl
@[simp] theorem Group.acceptEcho_outSeq (g : Group) (w : Seq) : (g.acceptEcho w).outSeq =
    g.outSeq := rfl
@[simp] theorem Group.acceptEcho_env (g : Group) (w : Seq) : (g.acceptEcho w).env = g.env := rfl
@[simp] theorem Group.acceptEcho_level (g : Group) (w : Seq) : (g.acceptEcho w).level = g.level := rfl
@[simp] theorem Group.acceptEcho_att (g : Group) (w : Seq) : (g.acceptEcho w).att = g.att := rfl
@[simp] theorem Group.acceptEcho_retryCount (g : Group) (w : Seq) : (g.acceptEcho w).retryCount =
    g.retryCount := rfl
@[simp] theorem Group.acceptEcho_retryTimer (g : Group) (w : Seq) : (g.acceptEcho w).retryTimer =
    g.retryTimer := rfl
@[simp] theorem Group.acceptEcho_resume (g : Group) (w : Seq) : (g.acceptEcho w).resume =
    g.resume := rfl
@[simp] theorem Group.acceptEcho_streak (g : Group) (w : Seq) : (g.acceptEcho w).streak =
    g.streak := rfl
@[simp] theorem Group.acceptEcho_sinceFb (g : Group) (w : Seq) :
    (g.acceptEcho w).sinceFb = 0 := rfl
@[simp] theorem Group.acceptEcho_telemCount (g : Group) (w : Seq) : (g.acceptEcho w).telemCount =
    g.telemCount := rfl
@[simp] theorem Group.acceptEcho_genDone (g : Group) (w : Seq) : (g.acceptEcho w).genDone =
    g.genDone := rfl
@[simp] theorem Group.acceptEcho_tallies (g : Group) (w : Seq) : (g.acceptEcho w).tallies =
    g.tallies := rfl
@[simp] theorem Group.acceptEcho_latched (g : Group) (w : Seq) : (g.acceptEcho w).latched =
    g.latched := rfl
@[simp] theorem Group.acceptEcho_firstTrip (g : Group) (w : Seq) : (g.acceptEcho w).firstTrip =
    g.firstTrip := rfl
@[simp] theorem Group.acceptEcho_action (g : Group) (w : Seq) : (g.acceptEcho w).action =
    g.action := rfl
@[simp] theorem Group.acceptEcho_target (g : Group) (w : Seq) : (g.acceptEcho w).target =
    g.target := rfl
@[simp] theorem Group.acceptEcho_cfg (g : Group) (w : Seq) : (g.acceptEcho w).cfg = g.cfg := rfl
@[simp] theorem Group.acceptEcho_gen (g : Group) (w : Seq) : (g.acceptEcho w).gen = g.gen := rfl
@[simp] theorem Group.acceptEcho_genRun (g : Group) (w : Seq) : (g.acceptEcho w).genRun =
    g.genRun := rfl
@[simp] theorem Group.acceptEcho_queue (g : Group) (w : Seq) : (g.acceptEcho w).queue = g.queue := rfl
@[simp] theorem Group.acceptEcho_lastEcho (g : Group) (w : Seq) :
    (g.acceptEcho w).lastEcho = some w := rfl
@[simp] theorem Group.acceptEcho_chans (g : Group) (w : Seq) : (g.acceptEcho w).chans = g.chans := rfl
@[simp] theorem Group.acceptEcho_ctr (g : Group) (w : Seq) :
    (g.acceptEcho w).ctr = { g.ctr with feedbackAccepted := satAdd g.ctr.feedbackAccepted 1 } := rfl

@[simp] theorem Group.countStaleFeedback_state (g : Group) : g.countStaleFeedback.state = g.state := rfl
@[simp] theorem Group.countStaleFeedback_bound (g : Group) : g.countStaleFeedback.bound = g.bound := rfl
@[simp] theorem Group.countStaleFeedback_source (g : Group) : g.countStaleFeedback.source =
    g.source := rfl
@[simp] theorem Group.countStaleFeedback_expected (g : Group) : g.countStaleFeedback.expected =
    g.expected := rfl
@[simp] theorem Group.countStaleFeedback_outSeq (g : Group) : g.countStaleFeedback.outSeq =
    g.outSeq := rfl
@[simp] theorem Group.countStaleFeedback_env (g : Group) : g.countStaleFeedback.env = g.env := rfl
@[simp] theorem Group.countStaleFeedback_level (g : Group) : g.countStaleFeedback.level = g.level := rfl
@[simp] theorem Group.countStaleFeedback_att (g : Group) : g.countStaleFeedback.att = g.att := rfl
@[simp] theorem Group.countStaleFeedback_retryCount (g : Group) : g.countStaleFeedback.retryCount =
    g.retryCount := rfl
@[simp] theorem Group.countStaleFeedback_retryTimer (g : Group) : g.countStaleFeedback.retryTimer =
    g.retryTimer := rfl
@[simp] theorem Group.countStaleFeedback_resume (g : Group) : g.countStaleFeedback.resume =
    g.resume := rfl
@[simp] theorem Group.countStaleFeedback_streak (g : Group) : g.countStaleFeedback.streak =
    g.streak := rfl
@[simp] theorem Group.countStaleFeedback_sinceFb (g : Group) : g.countStaleFeedback.sinceFb =
    g.sinceFb := rfl
@[simp] theorem Group.countStaleFeedback_telemCount (g : Group) : g.countStaleFeedback.telemCount =
    g.telemCount := rfl
@[simp] theorem Group.countStaleFeedback_genDone (g : Group) : g.countStaleFeedback.genDone =
    g.genDone := rfl
@[simp] theorem Group.countStaleFeedback_tallies (g : Group) : g.countStaleFeedback.tallies =
    g.tallies := rfl
@[simp] theorem Group.countStaleFeedback_latched (g : Group) : g.countStaleFeedback.latched =
    g.latched := rfl
@[simp] theorem Group.countStaleFeedback_firstTrip (g : Group) : g.countStaleFeedback.firstTrip =
    g.firstTrip := rfl
@[simp] theorem Group.countStaleFeedback_action (g : Group) : g.countStaleFeedback.action =
    g.action := rfl
@[simp] theorem Group.countStaleFeedback_target (g : Group) : g.countStaleFeedback.target =
    g.target := rfl
@[simp] theorem Group.countStaleFeedback_cfg (g : Group) : g.countStaleFeedback.cfg = g.cfg := rfl
@[simp] theorem Group.countStaleFeedback_gen (g : Group) : g.countStaleFeedback.gen = g.gen := rfl
@[simp] theorem Group.countStaleFeedback_genRun (g : Group) : g.countStaleFeedback.genRun =
    g.genRun := rfl
@[simp] theorem Group.countStaleFeedback_queue (g : Group) : g.countStaleFeedback.queue = g.queue := rfl
@[simp] theorem Group.countStaleFeedback_lastEcho (g : Group) : g.countStaleFeedback.lastEcho =
    g.lastEcho := rfl
@[simp] theorem Group.countStaleFeedback_chans (g : Group) : g.countStaleFeedback.chans = g.chans := rfl
@[simp] theorem Group.countStaleFeedback_ctr (g : Group) :
    g.countStaleFeedback.ctr = { g.ctr with feedbackStale := satAdd g.ctr.feedbackStale 1 } := rfl

@[simp] theorem Group.countUnbound_state (g : Group) : g.countUnbound.state = g.state := rfl
@[simp] theorem Group.countUnbound_bound (g : Group) : g.countUnbound.bound = g.bound := rfl
@[simp] theorem Group.countUnbound_source (g : Group) : g.countUnbound.source = g.source := rfl
@[simp] theorem Group.countUnbound_expected (g : Group) : g.countUnbound.expected = g.expected := rfl
@[simp] theorem Group.countUnbound_outSeq (g : Group) : g.countUnbound.outSeq = g.outSeq := rfl
@[simp] theorem Group.countUnbound_env (g : Group) : g.countUnbound.env = g.env := rfl
@[simp] theorem Group.countUnbound_level (g : Group) : g.countUnbound.level = g.level := rfl
@[simp] theorem Group.countUnbound_att (g : Group) : g.countUnbound.att = g.att := rfl
@[simp] theorem Group.countUnbound_retryCount (g : Group) : g.countUnbound.retryCount =
    g.retryCount := rfl
@[simp] theorem Group.countUnbound_retryTimer (g : Group) : g.countUnbound.retryTimer =
    g.retryTimer := rfl
@[simp] theorem Group.countUnbound_resume (g : Group) : g.countUnbound.resume = g.resume := rfl
@[simp] theorem Group.countUnbound_streak (g : Group) : g.countUnbound.streak = g.streak := rfl
@[simp] theorem Group.countUnbound_sinceFb (g : Group) : g.countUnbound.sinceFb = g.sinceFb := rfl
@[simp] theorem Group.countUnbound_telemCount (g : Group) : g.countUnbound.telemCount =
    g.telemCount := rfl
@[simp] theorem Group.countUnbound_genDone (g : Group) : g.countUnbound.genDone = g.genDone := rfl
@[simp] theorem Group.countUnbound_tallies (g : Group) : g.countUnbound.tallies = g.tallies := rfl
@[simp] theorem Group.countUnbound_latched (g : Group) : g.countUnbound.latched = g.latched := rfl
@[simp] theorem Group.countUnbound_firstTrip (g : Group) : g.countUnbound.firstTrip = g.firstTrip := rfl
@[simp] theorem Group.countUnbound_action (g : Group) : g.countUnbound.action = g.action := rfl
@[simp] theorem Group.countUnbound_target (g : Group) : g.countUnbound.target = g.target := rfl
@[simp] theorem Group.countUnbound_cfg (g : Group) : g.countUnbound.cfg = g.cfg := rfl
@[simp] theorem Group.countUnbound_gen (g : Group) : g.countUnbound.gen = g.gen := rfl
@[simp] theorem Group.countUnbound_genRun (g : Group) : g.countUnbound.genRun = g.genRun := rfl
@[simp] theorem Group.countUnbound_queue (g : Group) : g.countUnbound.queue = g.queue := rfl
@[simp] theorem Group.countUnbound_lastEcho (g : Group) : g.countUnbound.lastEcho = g.lastEcho := rfl
@[simp] theorem Group.countUnbound_chans (g : Group) : g.countUnbound.chans = g.chans := rfl
@[simp] theorem Group.countUnbound_ctr (g : Group) :
    g.countUnbound.ctr = { g.ctr with unboundDrops := satAdd g.ctr.unboundDrops 1 } := rfl

@[simp] theorem Group.countRefused_state (g : Group) : g.countRefused.state = g.state := rfl
@[simp] theorem Group.countRefused_bound (g : Group) : g.countRefused.bound = g.bound := rfl
@[simp] theorem Group.countRefused_source (g : Group) : g.countRefused.source = g.source := rfl
@[simp] theorem Group.countRefused_expected (g : Group) : g.countRefused.expected = g.expected := rfl
@[simp] theorem Group.countRefused_outSeq (g : Group) : g.countRefused.outSeq = g.outSeq := rfl
@[simp] theorem Group.countRefused_env (g : Group) : g.countRefused.env = g.env := rfl
@[simp] theorem Group.countRefused_level (g : Group) : g.countRefused.level = g.level := rfl
@[simp] theorem Group.countRefused_att (g : Group) : g.countRefused.att = g.att := rfl
@[simp] theorem Group.countRefused_retryCount (g : Group) : g.countRefused.retryCount =
    g.retryCount := rfl
@[simp] theorem Group.countRefused_retryTimer (g : Group) : g.countRefused.retryTimer =
    g.retryTimer := rfl
@[simp] theorem Group.countRefused_resume (g : Group) : g.countRefused.resume = g.resume := rfl
@[simp] theorem Group.countRefused_streak (g : Group) : g.countRefused.streak = g.streak := rfl
@[simp] theorem Group.countRefused_sinceFb (g : Group) : g.countRefused.sinceFb = g.sinceFb := rfl
@[simp] theorem Group.countRefused_telemCount (g : Group) : g.countRefused.telemCount =
    g.telemCount := rfl
@[simp] theorem Group.countRefused_genDone (g : Group) : g.countRefused.genDone = g.genDone := rfl
@[simp] theorem Group.countRefused_tallies (g : Group) : g.countRefused.tallies = g.tallies := rfl
@[simp] theorem Group.countRefused_latched (g : Group) : g.countRefused.latched = g.latched := rfl
@[simp] theorem Group.countRefused_firstTrip (g : Group) : g.countRefused.firstTrip = g.firstTrip := rfl
@[simp] theorem Group.countRefused_action (g : Group) : g.countRefused.action = g.action := rfl
@[simp] theorem Group.countRefused_target (g : Group) : g.countRefused.target = g.target := rfl
@[simp] theorem Group.countRefused_cfg (g : Group) : g.countRefused.cfg = g.cfg := rfl
@[simp] theorem Group.countRefused_gen (g : Group) : g.countRefused.gen = g.gen := rfl
@[simp] theorem Group.countRefused_genRun (g : Group) : g.countRefused.genRun = g.genRun := rfl
@[simp] theorem Group.countRefused_queue (g : Group) : g.countRefused.queue = g.queue := rfl
@[simp] theorem Group.countRefused_lastEcho (g : Group) : g.countRefused.lastEcho = g.lastEcho := rfl
@[simp] theorem Group.countRefused_chans (g : Group) : g.countRefused.chans = g.chans := rfl
@[simp] theorem Group.countRefused_ctr (g : Group) :
    g.countRefused.ctr = { g.ctr with refusedDrops := satAdd g.ctr.refusedDrops 1 } := rfl

@[simp] theorem Group.takeTrims_state (g : Group) (t : Tab 6 (Option Du)) : (g.takeTrims t).state =
    g.state := rfl
@[simp] theorem Group.takeTrims_bound (g : Group) (t : Tab 6 (Option Du)) : (g.takeTrims t).bound =
    g.bound := rfl
@[simp] theorem Group.takeTrims_source (g : Group) (t : Tab 6 (Option Du)) : (g.takeTrims t).source =
    g.source := rfl
@[simp] theorem Group.takeTrims_expected (g : Group) (t : Tab 6 (Option Du)) : (g.takeTrims t).expected =
    g.expected := rfl
@[simp] theorem Group.takeTrims_outSeq (g : Group) (t : Tab 6 (Option Du)) : (g.takeTrims t).outSeq =
    g.outSeq := rfl
@[simp] theorem Group.takeTrims_env (g : Group) (t : Tab 6 (Option Du)) : (g.takeTrims t).env =
    g.env := rfl
@[simp] theorem Group.takeTrims_level (g : Group) (t : Tab 6 (Option Du)) : (g.takeTrims t).level =
    g.level := rfl
@[simp] theorem Group.takeTrims_att (g : Group) (t : Tab 6 (Option Du)) : (g.takeTrims t).att =
    g.att := rfl
@[simp] theorem Group.takeTrims_retryCount (g : Group) (t : Tab 6 (Option Du)) : (g.takeTrims t).retryCount =
    g.retryCount := rfl
@[simp] theorem Group.takeTrims_retryTimer (g : Group) (t : Tab 6 (Option Du)) : (g.takeTrims t).retryTimer =
    g.retryTimer := rfl
@[simp] theorem Group.takeTrims_resume (g : Group) (t : Tab 6 (Option Du)) : (g.takeTrims t).resume =
    g.resume := rfl
@[simp] theorem Group.takeTrims_streak (g : Group) (t : Tab 6 (Option Du)) : (g.takeTrims t).streak =
    g.streak := rfl
@[simp] theorem Group.takeTrims_sinceFb (g : Group) (t : Tab 6 (Option Du)) : (g.takeTrims t).sinceFb =
    g.sinceFb := rfl
@[simp] theorem Group.takeTrims_telemCount (g : Group) (t : Tab 6 (Option Du)) : (g.takeTrims t).telemCount =
    g.telemCount := rfl
@[simp] theorem Group.takeTrims_genDone (g : Group) (t : Tab 6 (Option Du)) : (g.takeTrims t).genDone =
    g.genDone := rfl
@[simp] theorem Group.takeTrims_tallies (g : Group) (t : Tab 6 (Option Du)) : (g.takeTrims t).tallies =
    g.tallies := rfl
@[simp] theorem Group.takeTrims_latched (g : Group) (t : Tab 6 (Option Du)) : (g.takeTrims t).latched =
    g.latched := rfl
@[simp] theorem Group.takeTrims_firstTrip (g : Group) (t : Tab 6 (Option Du)) : (g.takeTrims t).firstTrip =
    g.firstTrip := rfl
@[simp] theorem Group.takeTrims_action (g : Group) (t : Tab 6 (Option Du)) : (g.takeTrims t).action =
    g.action := rfl
@[simp] theorem Group.takeTrims_target (g : Group) (t : Tab 6 (Option Du)) : (g.takeTrims t).target =
    g.target := rfl
@[simp] theorem Group.takeTrims_cfg (g : Group) (t : Tab 6 (Option Du)) : (g.takeTrims t).cfg =
    g.cfg := rfl
@[simp] theorem Group.takeTrims_gen (g : Group) (t : Tab 6 (Option Du)) : (g.takeTrims t).gen =
    g.gen := rfl
@[simp] theorem Group.takeTrims_genRun (g : Group) (t : Tab 6 (Option Du)) : (g.takeTrims t).genRun =
    g.genRun := rfl
@[simp] theorem Group.takeTrims_queue (g : Group) (t : Tab 6 (Option Du)) : (g.takeTrims t).queue =
    g.queue := rfl
@[simp] theorem Group.takeTrims_lastEcho (g : Group) (t : Tab 6 (Option Du)) : (g.takeTrims t).lastEcho =
    g.lastEcho := rfl
@[simp] theorem Group.takeTrims_chans (g : Group) (t : Tab 6 (Option Du)) :
    (g.takeTrims t).chans = g.chans.mapIx fun l c => c.takeTrim (t.get l) := rfl
@[simp] theorem Group.takeTrims_ctr (g : Group) (t : Tab 6 (Option Du)) : (g.takeTrims t).ctr =
    g.ctr := rfl

@[simp] theorem Group.arm_state (g : Group) (b : Option MapIx) :
    (g.arm b).state = .armed := rfl
@[simp] theorem Group.arm_bound (g : Group) (b : Option MapIx) :
    (g.arm b).bound = b := rfl
@[simp] theorem Group.arm_source (g : Group) (b : Option MapIx) :
    (g.arm b).source = .stream := rfl
@[simp] theorem Group.arm_expected (g : Group) (b : Option MapIx) :
    (g.arm b).expected = none := rfl
@[simp] theorem Group.arm_outSeq (g : Group) (b : Option MapIx) : (g.arm b).outSeq = g.outSeq := rfl
@[simp] theorem Group.arm_env (g : Group) (b : Option MapIx) :
    (g.arm b).env = 0 := rfl
@[simp] theorem Group.arm_level (g : Group) (b : Option MapIx) : (g.arm b).level = g.level := rfl
@[simp] theorem Group.arm_att (g : Group) (b : Option MapIx) :
    (g.arm b).att = 4096 := rfl
@[simp] theorem Group.arm_retryCount (g : Group) (b : Option MapIx) :
    (g.arm b).retryCount = 0 := rfl
@[simp] theorem Group.arm_retryTimer (g : Group) (b : Option MapIx) : (g.arm b).retryTimer =
    g.retryTimer := rfl
@[simp] theorem Group.arm_resume (g : Group) (b : Option MapIx) : (g.arm b).resume = g.resume := rfl
@[simp] theorem Group.arm_streak (g : Group) (b : Option MapIx) :
    (g.arm b).streak = 0 := rfl
@[simp] theorem Group.arm_sinceFb (g : Group) (b : Option MapIx) :
    (g.arm b).sinceFb = 0 := rfl
@[simp] theorem Group.arm_telemCount (g : Group) (b : Option MapIx) : (g.arm b).telemCount =
    g.telemCount := rfl
@[simp] theorem Group.arm_genDone (g : Group) (b : Option MapIx) :
    (g.arm b).genDone = false := rfl
@[simp] theorem Group.arm_tallies (g : Group) (b : Option MapIx) :
    (g.arm b).tallies = defaultTallies := rfl
@[simp] theorem Group.arm_latched (g : Group) (b : Option MapIx) : (g.arm b).latched = g.latched := rfl
@[simp] theorem Group.arm_firstTrip (g : Group) (b : Option MapIx) :
    (g.arm b).firstTrip = none := rfl
@[simp] theorem Group.arm_action (g : Group) (b : Option MapIx) :
    (g.arm b).action = none := rfl
@[simp] theorem Group.arm_target (g : Group) (b : Option MapIx) :
    (g.arm b).target = none := rfl
@[simp] theorem Group.arm_cfg (g : Group) (b : Option MapIx) : (g.arm b).cfg = g.cfg := rfl
@[simp] theorem Group.arm_gen (g : Group) (b : Option MapIx) : (g.arm b).gen = g.gen := rfl
@[simp] theorem Group.arm_genRun (g : Group) (b : Option MapIx) : (g.arm b).genRun = g.genRun := rfl
@[simp] theorem Group.arm_queue (g : Group) (b : Option MapIx) :
    (g.arm b).queue = [] := rfl
@[simp] theorem Group.arm_lastEcho (g : Group) (b : Option MapIx) : (g.arm b).lastEcho =
    g.lastEcho := rfl
@[simp] theorem Group.arm_chans (g : Group) (b : Option MapIx) :
    (g.arm b).chans = g.chans.map fun c => { c with d := 0, persist := 0 } := rfl
@[simp] theorem Group.arm_ctr (g : Group) (b : Option MapIx) : (g.arm b).ctr = g.ctr := rfl

@[simp] theorem Group.startGenerator_state (g : Group) :
    g.startGenerator.state = .fadeIn := rfl
@[simp] theorem Group.startGenerator_bound (g : Group) : g.startGenerator.bound = g.bound := rfl
@[simp] theorem Group.startGenerator_source (g : Group) :
    g.startGenerator.source = .generator := rfl
@[simp] theorem Group.startGenerator_expected (g : Group) : g.startGenerator.expected =
    g.expected := rfl
@[simp] theorem Group.startGenerator_outSeq (g : Group) : g.startGenerator.outSeq = g.outSeq := rfl
@[simp] theorem Group.startGenerator_env (g : Group) : g.startGenerator.env = g.env := rfl
@[simp] theorem Group.startGenerator_level (g : Group) : g.startGenerator.level = g.level := rfl
@[simp] theorem Group.startGenerator_att (g : Group) : g.startGenerator.att = g.att := rfl
@[simp] theorem Group.startGenerator_retryCount (g : Group) : g.startGenerator.retryCount =
    g.retryCount := rfl
@[simp] theorem Group.startGenerator_retryTimer (g : Group) : g.startGenerator.retryTimer =
    g.retryTimer := rfl
@[simp] theorem Group.startGenerator_resume (g : Group) : g.startGenerator.resume = g.resume := rfl
@[simp] theorem Group.startGenerator_streak (g : Group) :
    g.startGenerator.streak = 0 := rfl
@[simp] theorem Group.startGenerator_sinceFb (g : Group) : g.startGenerator.sinceFb = g.sinceFb := rfl
@[simp] theorem Group.startGenerator_telemCount (g : Group) : g.startGenerator.telemCount =
    g.telemCount := rfl
@[simp] theorem Group.startGenerator_genDone (g : Group) :
    g.startGenerator.genDone = false := rfl
@[simp] theorem Group.startGenerator_tallies (g : Group) :
    g.startGenerator.tallies = g.flush.tallies := rfl
@[simp] theorem Group.startGenerator_latched (g : Group) : g.startGenerator.latched = g.latched := rfl
@[simp] theorem Group.startGenerator_firstTrip (g : Group) : g.startGenerator.firstTrip =
    g.firstTrip := rfl
@[simp] theorem Group.startGenerator_action (g : Group) : g.startGenerator.action = g.action := rfl
@[simp] theorem Group.startGenerator_target (g : Group) : g.startGenerator.target = g.target := rfl
@[simp] theorem Group.startGenerator_cfg (g : Group) : g.startGenerator.cfg = g.cfg := rfl
@[simp] theorem Group.startGenerator_gen (g : Group) : g.startGenerator.gen = g.gen := rfl
@[simp] theorem Group.startGenerator_genRun (g : Group) :
    g.startGenerator.genRun = genRestart g.gen := rfl
@[simp] theorem Group.startGenerator_queue (g : Group) :
    g.startGenerator.queue = [] := rfl
@[simp] theorem Group.startGenerator_lastEcho (g : Group) : g.startGenerator.lastEcho =
    g.lastEcho := rfl
@[simp] theorem Group.startGenerator_chans (g : Group) :
    g.startGenerator.chans = g.chans.map fun c => { c with persist := 0 } := rfl
@[simp] theorem Group.startGenerator_ctr (g : Group) : g.startGenerator.ctr = g.ctr := rfl

@[simp] theorem Group.configure_state (g : Group) (c : GroupConfig) : (g.configure c).state =
    g.state := rfl
@[simp] theorem Group.configure_bound (g : Group) (c : GroupConfig) : (g.configure c).bound =
    g.bound := rfl
@[simp] theorem Group.configure_source (g : Group) (c : GroupConfig) : (g.configure c).source =
    g.source := rfl
@[simp] theorem Group.configure_expected (g : Group) (c : GroupConfig) : (g.configure c).expected =
    g.expected := rfl
@[simp] theorem Group.configure_outSeq (g : Group) (c : GroupConfig) : (g.configure c).outSeq =
    g.outSeq := rfl
@[simp] theorem Group.configure_env (g : Group) (c : GroupConfig) : (g.configure c).env = g.env := rfl
@[simp] theorem Group.configure_level (g : Group) (c : GroupConfig) : (g.configure c).level =
    g.level := rfl
@[simp] theorem Group.configure_att (g : Group) (c : GroupConfig) :
    (g.configure c).att = 4096 := rfl
@[simp] theorem Group.configure_retryCount (g : Group) (c : GroupConfig) : (g.configure c).retryCount =
    g.retryCount := rfl
@[simp] theorem Group.configure_retryTimer (g : Group) (c : GroupConfig) : (g.configure c).retryTimer =
    g.retryTimer := rfl
@[simp] theorem Group.configure_resume (g : Group) (c : GroupConfig) : (g.configure c).resume =
    g.resume := rfl
@[simp] theorem Group.configure_streak (g : Group) (c : GroupConfig) : (g.configure c).streak =
    g.streak := rfl
@[simp] theorem Group.configure_sinceFb (g : Group) (c : GroupConfig) : (g.configure c).sinceFb =
    g.sinceFb := rfl
@[simp] theorem Group.configure_telemCount (g : Group) (c : GroupConfig) :
    (g.configure c).telemCount = 0 := rfl
@[simp] theorem Group.configure_genDone (g : Group) (c : GroupConfig) : (g.configure c).genDone =
    g.genDone := rfl
@[simp] theorem Group.configure_tallies (g : Group) (c : GroupConfig) : (g.configure c).tallies =
    g.tallies := rfl
@[simp] theorem Group.configure_latched (g : Group) (c : GroupConfig) : (g.configure c).latched =
    g.latched := rfl
@[simp] theorem Group.configure_firstTrip (g : Group) (c : GroupConfig) : (g.configure c).firstTrip =
    g.firstTrip := rfl
@[simp] theorem Group.configure_action (g : Group) (c : GroupConfig) : (g.configure c).action =
    g.action := rfl
@[simp] theorem Group.configure_target (g : Group) (c : GroupConfig) : (g.configure c).target =
    g.target := rfl
@[simp] theorem Group.configure_cfg (g : Group) (c : GroupConfig) :
    (g.configure c).cfg = c := rfl
@[simp] theorem Group.configure_gen (g : Group) (c : GroupConfig) : (g.configure c).gen = g.gen := rfl
@[simp] theorem Group.configure_genRun (g : Group) (c : GroupConfig) : (g.configure c).genRun =
    g.genRun := rfl
@[simp] theorem Group.configure_queue (g : Group) (c : GroupConfig) : (g.configure c).queue =
    g.queue := rfl
@[simp] theorem Group.configure_lastEcho (g : Group) (c : GroupConfig) : (g.configure c).lastEcho =
    g.lastEcho := rfl
@[simp] theorem Group.configure_chans (g : Group) (c : GroupConfig) : (g.configure c).chans =
    g.chans := rfl
@[simp] theorem Group.configure_ctr (g : Group) (c : GroupConfig) : (g.configure c).ctr = g.ctr := rfl

@[simp] theorem Group.evaluate_state (g : Group) (sets : Tab 16 LimitSet) (ts : Tab 6 Triple) : (g.evaluate sets ts).state =
    g.state := rfl
@[simp] theorem Group.evaluate_bound (g : Group) (sets : Tab 16 LimitSet) (ts : Tab 6 Triple) : (g.evaluate sets ts).bound =
    g.bound := rfl
@[simp] theorem Group.evaluate_source (g : Group) (sets : Tab 16 LimitSet) (ts : Tab 6 Triple) : (g.evaluate sets ts).source =
    g.source := rfl
@[simp] theorem Group.evaluate_expected (g : Group) (sets : Tab 16 LimitSet) (ts : Tab 6 Triple) : (g.evaluate sets ts).expected =
    g.expected := rfl
@[simp] theorem Group.evaluate_outSeq (g : Group) (sets : Tab 16 LimitSet) (ts : Tab 6 Triple) : (g.evaluate sets ts).outSeq =
    g.outSeq := rfl
@[simp] theorem Group.evaluate_env (g : Group) (sets : Tab 16 LimitSet) (ts : Tab 6 Triple) : (g.evaluate sets ts).env =
    g.env := rfl
@[simp] theorem Group.evaluate_level (g : Group) (sets : Tab 16 LimitSet) (ts : Tab 6 Triple) : (g.evaluate sets ts).level =
    g.level := rfl
@[simp] theorem Group.evaluate_att (g : Group) (sets : Tab 16 LimitSet) (ts : Tab 6 Triple) : (g.evaluate sets ts).att =
    g.att := rfl
@[simp] theorem Group.evaluate_retryCount (g : Group) (sets : Tab 16 LimitSet) (ts : Tab 6 Triple) : (g.evaluate sets ts).retryCount =
    g.retryCount := rfl
@[simp] theorem Group.evaluate_retryTimer (g : Group) (sets : Tab 16 LimitSet) (ts : Tab 6 Triple) : (g.evaluate sets ts).retryTimer =
    g.retryTimer := rfl
@[simp] theorem Group.evaluate_resume (g : Group) (sets : Tab 16 LimitSet) (ts : Tab 6 Triple) : (g.evaluate sets ts).resume =
    g.resume := rfl
@[simp] theorem Group.evaluate_streak (g : Group) (sets : Tab 16 LimitSet) (ts : Tab 6 Triple) : (g.evaluate sets ts).streak =
    g.streak := rfl
@[simp] theorem Group.evaluate_sinceFb (g : Group) (sets : Tab 16 LimitSet) (ts : Tab 6 Triple) : (g.evaluate sets ts).sinceFb =
    g.sinceFb := rfl
@[simp] theorem Group.evaluate_telemCount (g : Group) (sets : Tab 16 LimitSet) (ts : Tab 6 Triple) : (g.evaluate sets ts).telemCount =
    g.telemCount := rfl
@[simp] theorem Group.evaluate_genDone (g : Group) (sets : Tab 16 LimitSet) (ts : Tab 6 Triple) : (g.evaluate sets ts).genDone =
    g.genDone := rfl
@[simp] theorem Group.evaluate_tallies (g : Group) (sets : Tab 16 LimitSet) (ts : Tab 6 Triple) : (g.evaluate sets ts).tallies =
    g.tallies := rfl
@[simp] theorem Group.evaluate_latched (g : Group) (sets : Tab 16 LimitSet) (ts : Tab 6 Triple) : (g.evaluate sets ts).latched =
    g.latched := rfl
@[simp] theorem Group.evaluate_firstTrip (g : Group) (sets : Tab 16 LimitSet) (ts : Tab 6 Triple) : (g.evaluate sets ts).firstTrip =
    g.firstTrip := rfl
@[simp] theorem Group.evaluate_action (g : Group) (sets : Tab 16 LimitSet) (ts : Tab 6 Triple) : (g.evaluate sets ts).action =
    g.action := rfl
@[simp] theorem Group.evaluate_target (g : Group) (sets : Tab 16 LimitSet) (ts : Tab 6 Triple) : (g.evaluate sets ts).target =
    g.target := rfl
@[simp] theorem Group.evaluate_cfg (g : Group) (sets : Tab 16 LimitSet) (ts : Tab 6 Triple) : (g.evaluate sets ts).cfg =
    g.cfg := rfl
@[simp] theorem Group.evaluate_gen (g : Group) (sets : Tab 16 LimitSet) (ts : Tab 6 Triple) : (g.evaluate sets ts).gen =
    g.gen := rfl
@[simp] theorem Group.evaluate_genRun (g : Group) (sets : Tab 16 LimitSet) (ts : Tab 6 Triple) : (g.evaluate sets ts).genRun =
    g.genRun := rfl
@[simp] theorem Group.evaluate_queue (g : Group) (sets : Tab 16 LimitSet) (ts : Tab 6 Triple) : (g.evaluate sets ts).queue =
    g.queue := rfl
@[simp] theorem Group.evaluate_lastEcho (g : Group) (sets : Tab 16 LimitSet) (ts : Tab 6 Triple) : (g.evaluate sets ts).lastEcho =
    g.lastEcho := rfl
@[simp] theorem Group.evaluate_chans (g : Group) (sets : Tab 16 LimitSet) (ts : Tab 6 Triple) :
    (g.evaluate sets ts).chans = g.chans.mapIx fun l c => c.evaluate (c.limits sets) (ts.get l) := rfl
@[simp] theorem Group.evaluate_ctr (g : Group) (sets : Tab 16 LimitSet) (ts : Tab 6 Triple) : (g.evaluate sets ts).ctr =
    g.ctr := rfl

@[simp] theorem Group.clearNaming_state (g : Group) (i : SetIx) : (g.clearNaming i).state =
    g.state := rfl
@[simp] theorem Group.clearNaming_bound (g : Group) (i : SetIx) : (g.clearNaming i).bound =
    g.bound := rfl
@[simp] theorem Group.clearNaming_source (g : Group) (i : SetIx) : (g.clearNaming i).source =
    g.source := rfl
@[simp] theorem Group.clearNaming_expected (g : Group) (i : SetIx) : (g.clearNaming i).expected =
    g.expected := rfl
@[simp] theorem Group.clearNaming_outSeq (g : Group) (i : SetIx) : (g.clearNaming i).outSeq =
    g.outSeq := rfl
@[simp] theorem Group.clearNaming_env (g : Group) (i : SetIx) : (g.clearNaming i).env = g.env := rfl
@[simp] theorem Group.clearNaming_level (g : Group) (i : SetIx) : (g.clearNaming i).level =
    g.level := rfl
@[simp] theorem Group.clearNaming_att (g : Group) (i : SetIx) : (g.clearNaming i).att = g.att := rfl
@[simp] theorem Group.clearNaming_retryCount (g : Group) (i : SetIx) : (g.clearNaming i).retryCount =
    g.retryCount := rfl
@[simp] theorem Group.clearNaming_retryTimer (g : Group) (i : SetIx) : (g.clearNaming i).retryTimer =
    g.retryTimer := rfl
@[simp] theorem Group.clearNaming_resume (g : Group) (i : SetIx) : (g.clearNaming i).resume =
    g.resume := rfl
@[simp] theorem Group.clearNaming_streak (g : Group) (i : SetIx) : (g.clearNaming i).streak =
    g.streak := rfl
@[simp] theorem Group.clearNaming_sinceFb (g : Group) (i : SetIx) : (g.clearNaming i).sinceFb =
    g.sinceFb := rfl
@[simp] theorem Group.clearNaming_telemCount (g : Group) (i : SetIx) : (g.clearNaming i).telemCount =
    g.telemCount := rfl
@[simp] theorem Group.clearNaming_genDone (g : Group) (i : SetIx) : (g.clearNaming i).genDone =
    g.genDone := rfl
@[simp] theorem Group.clearNaming_tallies (g : Group) (i : SetIx) : (g.clearNaming i).tallies =
    g.tallies := rfl
@[simp] theorem Group.clearNaming_latched (g : Group) (i : SetIx) : (g.clearNaming i).latched =
    g.latched := rfl
@[simp] theorem Group.clearNaming_firstTrip (g : Group) (i : SetIx) : (g.clearNaming i).firstTrip =
    g.firstTrip := rfl
@[simp] theorem Group.clearNaming_action (g : Group) (i : SetIx) : (g.clearNaming i).action =
    g.action := rfl
@[simp] theorem Group.clearNaming_target (g : Group) (i : SetIx) : (g.clearNaming i).target =
    g.target := rfl
@[simp] theorem Group.clearNaming_cfg (g : Group) (i : SetIx) : (g.clearNaming i).cfg = g.cfg := rfl
@[simp] theorem Group.clearNaming_gen (g : Group) (i : SetIx) : (g.clearNaming i).gen = g.gen := rfl
@[simp] theorem Group.clearNaming_genRun (g : Group) (i : SetIx) : (g.clearNaming i).genRun =
    g.genRun := rfl
@[simp] theorem Group.clearNaming_queue (g : Group) (i : SetIx) : (g.clearNaming i).queue =
    g.queue := rfl
@[simp] theorem Group.clearNaming_lastEcho (g : Group) (i : SetIx) : (g.clearNaming i).lastEcho =
    g.lastEcho := rfl
@[simp] theorem Group.clearNaming_ctr (g : Group) (i : SetIx) : (g.clearNaming i).ctr = g.ctr := rfl

@[simp] theorem Group.removeAbsent_state (g : Group) (w o : Bool) : (g.removeAbsent w o).state =
    g.state := rfl
@[simp] theorem Group.removeAbsent_bound (g : Group) (w o : Bool) : (g.removeAbsent w o).bound =
    g.bound := rfl
@[simp] theorem Group.removeAbsent_source (g : Group) (w o : Bool) : (g.removeAbsent w o).source =
    g.source := rfl
@[simp] theorem Group.removeAbsent_expected (g : Group) (w o : Bool) : (g.removeAbsent w o).expected =
    g.expected := rfl
@[simp] theorem Group.removeAbsent_outSeq (g : Group) (w o : Bool) : (g.removeAbsent w o).outSeq =
    g.outSeq := rfl
@[simp] theorem Group.removeAbsent_env (g : Group) (w o : Bool) : (g.removeAbsent w o).env =
    g.env := rfl
@[simp] theorem Group.removeAbsent_level (g : Group) (w o : Bool) : (g.removeAbsent w o).level =
    g.level := rfl
@[simp] theorem Group.removeAbsent_att (g : Group) (w o : Bool) : (g.removeAbsent w o).att =
    g.att := rfl
@[simp] theorem Group.removeAbsent_retryCount (g : Group) (w o : Bool) : (g.removeAbsent w o).retryCount =
    g.retryCount := rfl
@[simp] theorem Group.removeAbsent_retryTimer (g : Group) (w o : Bool) : (g.removeAbsent w o).retryTimer =
    g.retryTimer := rfl
@[simp] theorem Group.removeAbsent_resume (g : Group) (w o : Bool) : (g.removeAbsent w o).resume =
    g.resume := rfl
@[simp] theorem Group.removeAbsent_streak (g : Group) (w o : Bool) : (g.removeAbsent w o).streak =
    g.streak := rfl
@[simp] theorem Group.removeAbsent_sinceFb (g : Group) (w o : Bool) : (g.removeAbsent w o).sinceFb =
    g.sinceFb := rfl
@[simp] theorem Group.removeAbsent_telemCount (g : Group) (w o : Bool) : (g.removeAbsent w o).telemCount =
    g.telemCount := rfl
@[simp] theorem Group.removeAbsent_genDone (g : Group) (w o : Bool) : (g.removeAbsent w o).genDone =
    g.genDone := rfl
@[simp] theorem Group.removeAbsent_tallies (g : Group) (w o : Bool) : (g.removeAbsent w o).tallies =
    g.tallies := rfl
@[simp] theorem Group.removeAbsent_firstTrip (g : Group) (w o : Bool) : (g.removeAbsent w o).firstTrip =
    g.firstTrip := rfl
@[simp] theorem Group.removeAbsent_action (g : Group) (w o : Bool) : (g.removeAbsent w o).action =
    g.action := rfl
@[simp] theorem Group.removeAbsent_target (g : Group) (w o : Bool) : (g.removeAbsent w o).target =
    g.target := rfl
@[simp] theorem Group.removeAbsent_cfg (g : Group) (w o : Bool) : (g.removeAbsent w o).cfg =
    g.cfg := rfl
@[simp] theorem Group.removeAbsent_gen (g : Group) (w o : Bool) : (g.removeAbsent w o).gen =
    g.gen := rfl
@[simp] theorem Group.removeAbsent_genRun (g : Group) (w o : Bool) : (g.removeAbsent w o).genRun =
    g.genRun := rfl
@[simp] theorem Group.removeAbsent_queue (g : Group) (w o : Bool) : (g.removeAbsent w o).queue =
    g.queue := rfl
@[simp] theorem Group.removeAbsent_lastEcho (g : Group) (w o : Bool) : (g.removeAbsent w o).lastEcho =
    g.lastEcho := rfl
@[simp] theorem Group.removeAbsent_chans (g : Group) (w o : Bool) : (g.removeAbsent w o).chans =
    g.chans := rfl
@[simp] theorem Group.removeAbsent_ctr (g : Group) (w o : Bool) : (g.removeAbsent w o).ctr =
    g.ctr := rfl

@[simp] theorem Group.modChan_state (g : Group) (l : LaneIx) (f : Channel → Channel) : (g.modChan l f).state =
    g.state := rfl
@[simp] theorem Group.modChan_bound (g : Group) (l : LaneIx) (f : Channel → Channel) : (g.modChan l f).bound =
    g.bound := rfl
@[simp] theorem Group.modChan_source (g : Group) (l : LaneIx) (f : Channel → Channel) : (g.modChan l f).source =
    g.source := rfl
@[simp] theorem Group.modChan_expected (g : Group) (l : LaneIx) (f : Channel → Channel) : (g.modChan l f).expected =
    g.expected := rfl
@[simp] theorem Group.modChan_outSeq (g : Group) (l : LaneIx) (f : Channel → Channel) : (g.modChan l f).outSeq =
    g.outSeq := rfl
@[simp] theorem Group.modChan_env (g : Group) (l : LaneIx) (f : Channel → Channel) : (g.modChan l f).env =
    g.env := rfl
@[simp] theorem Group.modChan_level (g : Group) (l : LaneIx) (f : Channel → Channel) : (g.modChan l f).level =
    g.level := rfl
@[simp] theorem Group.modChan_att (g : Group) (l : LaneIx) (f : Channel → Channel) : (g.modChan l f).att =
    g.att := rfl
@[simp] theorem Group.modChan_retryCount (g : Group) (l : LaneIx) (f : Channel → Channel) : (g.modChan l f).retryCount =
    g.retryCount := rfl
@[simp] theorem Group.modChan_retryTimer (g : Group) (l : LaneIx) (f : Channel → Channel) : (g.modChan l f).retryTimer =
    g.retryTimer := rfl
@[simp] theorem Group.modChan_resume (g : Group) (l : LaneIx) (f : Channel → Channel) : (g.modChan l f).resume =
    g.resume := rfl
@[simp] theorem Group.modChan_streak (g : Group) (l : LaneIx) (f : Channel → Channel) : (g.modChan l f).streak =
    g.streak := rfl
@[simp] theorem Group.modChan_sinceFb (g : Group) (l : LaneIx) (f : Channel → Channel) : (g.modChan l f).sinceFb =
    g.sinceFb := rfl
@[simp] theorem Group.modChan_telemCount (g : Group) (l : LaneIx) (f : Channel → Channel) : (g.modChan l f).telemCount =
    g.telemCount := rfl
@[simp] theorem Group.modChan_genDone (g : Group) (l : LaneIx) (f : Channel → Channel) : (g.modChan l f).genDone =
    g.genDone := rfl
@[simp] theorem Group.modChan_tallies (g : Group) (l : LaneIx) (f : Channel → Channel) : (g.modChan l f).tallies =
    g.tallies := rfl
@[simp] theorem Group.modChan_latched (g : Group) (l : LaneIx) (f : Channel → Channel) : (g.modChan l f).latched =
    g.latched := rfl
@[simp] theorem Group.modChan_firstTrip (g : Group) (l : LaneIx) (f : Channel → Channel) : (g.modChan l f).firstTrip =
    g.firstTrip := rfl
@[simp] theorem Group.modChan_action (g : Group) (l : LaneIx) (f : Channel → Channel) : (g.modChan l f).action =
    g.action := rfl
@[simp] theorem Group.modChan_target (g : Group) (l : LaneIx) (f : Channel → Channel) : (g.modChan l f).target =
    g.target := rfl
@[simp] theorem Group.modChan_cfg (g : Group) (l : LaneIx) (f : Channel → Channel) : (g.modChan l f).cfg =
    g.cfg := rfl
@[simp] theorem Group.modChan_gen (g : Group) (l : LaneIx) (f : Channel → Channel) : (g.modChan l f).gen =
    g.gen := rfl
@[simp] theorem Group.modChan_genRun (g : Group) (l : LaneIx) (f : Channel → Channel) : (g.modChan l f).genRun =
    g.genRun := rfl
@[simp] theorem Group.modChan_queue (g : Group) (l : LaneIx) (f : Channel → Channel) : (g.modChan l f).queue =
    g.queue := rfl
@[simp] theorem Group.modChan_lastEcho (g : Group) (l : LaneIx) (f : Channel → Channel) : (g.modChan l f).lastEcho =
    g.lastEcho := rfl
@[simp] theorem Group.modChan_chans (g : Group) (l : LaneIx) (f : Channel → Channel) :
    (g.modChan l f).chans = g.chans.modify l f := rfl
@[simp] theorem Group.modChan_ctr (g : Group) (l : LaneIx) (f : Channel → Channel) : (g.modChan l f).ctr =
    g.ctr := rfl

/-! ## Channels -/

@[simp] theorem Channel.output_profile (c : Channel) (v : Int) : (c.output v).profile = c.profile := rfl
@[simp] theorem Channel.output_d (c : Channel) (v : Int) : (c.output v).d = c.d := rfl
@[simp] theorem Channel.output_x (c : Channel) (v : Int) : (c.output v).x = c.x := rfl
@[simp] theorem Channel.output_trim (c : Channel) (v : Int) : (c.output v).trim = c.trim := rfl
@[simp] theorem Channel.output_persist (c : Channel) (v : Int) : (c.output v).persist = c.persist := rfl
@[simp] theorem Channel.output_position (c : Channel) (v : Int) : (c.output v).position =
    c.position := rfl
@[simp] theorem Channel.output_force (c : Channel) (v : Int) : (c.output v).force = c.force := rfl
@[simp] theorem Channel.output_error (c : Channel) (v : Int) : (c.output v).error = c.error := rfl

@[simp] theorem Channel.countPersist_profile (c : Channel) : c.countPersist.profile = c.profile := rfl
@[simp] theorem Channel.countPersist_yPrev (c : Channel) : c.countPersist.yPrev = c.yPrev := rfl
@[simp] theorem Channel.countPersist_d (c : Channel) : c.countPersist.d = c.d := rfl
@[simp] theorem Channel.countPersist_x (c : Channel) : c.countPersist.x = c.x := rfl
@[simp] theorem Channel.countPersist_trim (c : Channel) : c.countPersist.trim = c.trim := rfl
@[simp] theorem Channel.countPersist_slewFlag (c : Channel) : c.countPersist.slewFlag =
    c.slewFlag := rfl
@[simp] theorem Channel.countPersist_rangeFlag (c : Channel) : c.countPersist.rangeFlag =
    c.rangeFlag := rfl
@[simp] theorem Channel.countPersist_persist (c : Channel) :
    c.countPersist.persist = if c.clamped then countUp c.persist else 0 := rfl
@[simp] theorem Channel.countPersist_position (c : Channel) : c.countPersist.position =
    c.position := rfl
@[simp] theorem Channel.countPersist_force (c : Channel) : c.countPersist.force = c.force := rfl
@[simp] theorem Channel.countPersist_error (c : Channel) : c.countPersist.error = c.error := rfl
@[simp] theorem Channel.countPersist_slewClamps (c : Channel) : c.countPersist.slewClamps =
    c.slewClamps := rfl
@[simp] theorem Channel.countPersist_rangeClamps (c : Channel) : c.countPersist.rangeClamps =
    c.rangeClamps := rfl

@[simp] theorem Channel.live_profile (c : Channel) (f : Nat) : (c.live f).profile = c.profile := rfl
@[simp] theorem Channel.live_d (c : Channel) (f : Nat) : (c.live f).d = c.d := rfl
@[simp] theorem Channel.live_x (c : Channel) (f : Nat) : (c.live f).x = c.x := rfl
@[simp] theorem Channel.live_trim (c : Channel) (f : Nat) : (c.live f).trim = c.trim := rfl
@[simp] theorem Channel.live_position (c : Channel) (f : Nat) : (c.live f).position = c.position := rfl
@[simp] theorem Channel.live_force (c : Channel) (f : Nat) : (c.live f).force = c.force := rfl
@[simp] theorem Channel.live_error (c : Channel) (f : Nat) : (c.live f).error = c.error := rfl

@[simp] theorem Channel.parking_profile (c : Channel) (e : Nat) : (c.parking e).profile =
    c.profile := rfl
@[simp] theorem Channel.parking_d (c : Channel) (e : Nat) : (c.parking e).d = c.d := rfl
@[simp] theorem Channel.parking_x (c : Channel) (e : Nat) : (c.parking e).x = c.x := rfl
@[simp] theorem Channel.parking_trim (c : Channel) (e : Nat) : (c.parking e).trim = c.trim := rfl
@[simp] theorem Channel.parking_persist (c : Channel) (e : Nat) : (c.parking e).persist =
    c.persist := rfl
@[simp] theorem Channel.parking_position (c : Channel) (e : Nat) : (c.parking e).position =
    c.position := rfl
@[simp] theorem Channel.parking_force (c : Channel) (e : Nat) : (c.parking e).force = c.force := rfl
@[simp] theorem Channel.parking_error (c : Channel) (e : Nat) : (c.parking e).error = c.error := rfl

@[simp] theorem Channel.hold_profile (c : Channel) : c.hold.profile = c.profile := rfl
@[simp] theorem Channel.hold_yPrev (c : Channel) :
    c.hold.yPrev = c.x := rfl
@[simp] theorem Channel.hold_d (c : Channel) : c.hold.d = c.d := rfl
@[simp] theorem Channel.hold_x (c : Channel) : c.hold.x = c.x := rfl
@[simp] theorem Channel.hold_trim (c : Channel) : c.hold.trim = c.trim := rfl
@[simp] theorem Channel.hold_slewFlag (c : Channel) :
    c.hold.slewFlag = false := rfl
@[simp] theorem Channel.hold_rangeFlag (c : Channel) :
    c.hold.rangeFlag = false := rfl
@[simp] theorem Channel.hold_persist (c : Channel) : c.hold.persist = c.persist := rfl
@[simp] theorem Channel.hold_position (c : Channel) : c.hold.position = c.position := rfl
@[simp] theorem Channel.hold_force (c : Channel) : c.hold.force = c.force := rfl
@[simp] theorem Channel.hold_error (c : Channel) : c.hold.error = c.error := rfl
@[simp] theorem Channel.hold_slewClamps (c : Channel) : c.hold.slewClamps = c.slewClamps := rfl
@[simp] theorem Channel.hold_rangeClamps (c : Channel) : c.hold.rangeClamps = c.rangeClamps := rfl

@[simp] theorem Channel.rest_profile (c : Channel) : c.rest.profile = c.profile := rfl
@[simp] theorem Channel.rest_yPrev (c : Channel) :
    c.rest.yPrev = c.profile.park := rfl
@[simp] theorem Channel.rest_d (c : Channel) : c.rest.d = c.d := rfl
@[simp] theorem Channel.rest_x (c : Channel) : c.rest.x = c.x := rfl
@[simp] theorem Channel.rest_trim (c : Channel) : c.rest.trim = c.trim := rfl
@[simp] theorem Channel.rest_slewFlag (c : Channel) :
    c.rest.slewFlag = false := rfl
@[simp] theorem Channel.rest_rangeFlag (c : Channel) :
    c.rest.rangeFlag = false := rfl
@[simp] theorem Channel.rest_persist (c : Channel) : c.rest.persist = c.persist := rfl
@[simp] theorem Channel.rest_position (c : Channel) : c.rest.position = c.position := rfl
@[simp] theorem Channel.rest_force (c : Channel) : c.rest.force = c.force := rfl
@[simp] theorem Channel.rest_error (c : Channel) : c.rest.error = c.error := rfl
@[simp] theorem Channel.rest_slewClamps (c : Channel) : c.rest.slewClamps = c.slewClamps := rfl
@[simp] theorem Channel.rest_rangeClamps (c : Channel) : c.rest.rangeClamps = c.rangeClamps := rfl

@[simp] theorem Channel.clearMonitors_profile (c : Channel) : c.clearMonitors.profile = c.profile := rfl
@[simp] theorem Channel.clearMonitors_yPrev (c : Channel) : c.clearMonitors.yPrev = c.yPrev := rfl
@[simp] theorem Channel.clearMonitors_d (c : Channel) : c.clearMonitors.d = c.d := rfl
@[simp] theorem Channel.clearMonitors_x (c : Channel) : c.clearMonitors.x = c.x := rfl
@[simp] theorem Channel.clearMonitors_trim (c : Channel) : c.clearMonitors.trim = c.trim := rfl
@[simp] theorem Channel.clearMonitors_slewFlag (c : Channel) : c.clearMonitors.slewFlag =
    c.slewFlag := rfl
@[simp] theorem Channel.clearMonitors_rangeFlag (c : Channel) : c.clearMonitors.rangeFlag =
    c.rangeFlag := rfl
@[simp] theorem Channel.clearMonitors_persist (c : Channel) : c.clearMonitors.persist = c.persist := rfl
@[simp] theorem Channel.clearMonitors_position (c : Channel) :
    c.clearMonitors.position = clearedMonRec := rfl
@[simp] theorem Channel.clearMonitors_force (c : Channel) :
    c.clearMonitors.force = clearedMonRec := rfl
@[simp] theorem Channel.clearMonitors_error (c : Channel) :
    c.clearMonitors.error = clearedMonRec := rfl
@[simp] theorem Channel.clearMonitors_slewClamps (c : Channel) : c.clearMonitors.slewClamps =
    c.slewClamps := rfl
@[simp] theorem Channel.clearMonitors_rangeClamps (c : Channel) : c.clearMonitors.rangeClamps =
    c.rangeClamps := rfl

@[simp] theorem Channel.evaluate_profile (c : Channel) (ls : LimitSet) (t : Triple) : (c.evaluate ls t).profile =
    c.profile := rfl
@[simp] theorem Channel.evaluate_yPrev (c : Channel) (ls : LimitSet) (t : Triple) : (c.evaluate ls t).yPrev =
    c.yPrev := rfl
@[simp] theorem Channel.evaluate_d (c : Channel) (ls : LimitSet) (t : Triple) : (c.evaluate ls t).d =
    c.d := rfl
@[simp] theorem Channel.evaluate_x (c : Channel) (ls : LimitSet) (t : Triple) : (c.evaluate ls t).x =
    c.x := rfl
@[simp] theorem Channel.evaluate_trim (c : Channel) (ls : LimitSet) (t : Triple) : (c.evaluate ls t).trim =
    c.trim := rfl
@[simp] theorem Channel.evaluate_slewFlag (c : Channel) (ls : LimitSet) (t : Triple) : (c.evaluate ls t).slewFlag =
    c.slewFlag := rfl
@[simp] theorem Channel.evaluate_rangeFlag (c : Channel) (ls : LimitSet) (t : Triple) : (c.evaluate ls t).rangeFlag =
    c.rangeFlag := rfl
@[simp] theorem Channel.evaluate_persist (c : Channel) (ls : LimitSet) (t : Triple) : (c.evaluate ls t).persist =
    c.persist := rfl
@[simp] theorem Channel.evaluate_slewClamps (c : Channel) (ls : LimitSet) (t : Triple) : (c.evaluate ls t).slewClamps =
    c.slewClamps := rfl
@[simp] theorem Channel.evaluate_rangeClamps (c : Channel) (ls : LimitSet) (t : Triple) : (c.evaluate ls t).rangeClamps =
    c.rangeClamps := rfl

/-! ## Ports -/

@[simp] theorem PortState.countReceived_policy (p : PortState) : p.countReceived.policy =
    p.policy := rfl
@[simp] theorem PortState.countReceived_requests (p : PortState) : p.countReceived.requests =
    p.requests := rfl
@[simp] theorem PortState.countReceived_responses (p : PortState) : p.countReceived.responses =
    p.responses := rfl
@[simp] theorem PortState.countReceived_echoes (p : PortState) : p.countReceived.echoes =
    p.echoes := rfl
@[simp] theorem PortState.countReceived_slots (p : PortState) : p.countReceived.slots = p.slots := rfl
@[simp] theorem PortState.countReceived_nextGroup (p : PortState) : p.countReceived.nextGroup =
    p.nextGroup := rfl
@[simp] theorem PortState.countReceived_sending (p : PortState) : p.countReceived.sending =
    p.sending := rfl
@[simp] theorem PortState.countReceived_actions (p : PortState) : p.countReceived.actions =
    p.actions := rfl
@[simp] theorem PortState.countReceived_ctr (p : PortState) :
    p.countReceived.ctr = { p.ctr with framesReceived := satAdd p.ctr.framesReceived 1 } := rfl
@[simp] theorem PortState.countReceived_sent (p : PortState) : p.countReceived.sent = p.sent := rfl

@[simp] theorem PortState.countCheckError_policy (p : PortState) : p.countCheckError.policy =
    p.policy := rfl
@[simp] theorem PortState.countCheckError_requests (p : PortState) : p.countCheckError.requests =
    p.requests := rfl
@[simp] theorem PortState.countCheckError_responses (p : PortState) : p.countCheckError.responses =
    p.responses := rfl
@[simp] theorem PortState.countCheckError_echoes (p : PortState) : p.countCheckError.echoes =
    p.echoes := rfl
@[simp] theorem PortState.countCheckError_slots (p : PortState) : p.countCheckError.slots =
    p.slots := rfl
@[simp] theorem PortState.countCheckError_nextGroup (p : PortState) : p.countCheckError.nextGroup =
    p.nextGroup := rfl
@[simp] theorem PortState.countCheckError_sending (p : PortState) : p.countCheckError.sending =
    p.sending := rfl
@[simp] theorem PortState.countCheckError_actions (p : PortState) : p.countCheckError.actions =
    p.actions := rfl
@[simp] theorem PortState.countCheckError_ctr (p : PortState) :
    p.countCheckError.ctr = { p.ctr with checkErrors := satAdd p.ctr.checkErrors 1 } := rfl
@[simp] theorem PortState.countCheckError_sent (p : PortState) : p.countCheckError.sent = p.sent := rfl

@[simp] theorem PortState.countMalformed_policy (p : PortState) : p.countMalformed.policy =
    p.policy := rfl
@[simp] theorem PortState.countMalformed_requests (p : PortState) : p.countMalformed.requests =
    p.requests := rfl
@[simp] theorem PortState.countMalformed_responses (p : PortState) : p.countMalformed.responses =
    p.responses := rfl
@[simp] theorem PortState.countMalformed_echoes (p : PortState) : p.countMalformed.echoes =
    p.echoes := rfl
@[simp] theorem PortState.countMalformed_slots (p : PortState) : p.countMalformed.slots = p.slots := rfl
@[simp] theorem PortState.countMalformed_nextGroup (p : PortState) : p.countMalformed.nextGroup =
    p.nextGroup := rfl
@[simp] theorem PortState.countMalformed_sending (p : PortState) : p.countMalformed.sending =
    p.sending := rfl
@[simp] theorem PortState.countMalformed_actions (p : PortState) : p.countMalformed.actions =
    p.actions := rfl
@[simp] theorem PortState.countMalformed_ctr (p : PortState) :
    p.countMalformed.ctr = { p.ctr with malformed := satAdd p.ctr.malformed 1 } := rfl
@[simp] theorem PortState.countMalformed_sent (p : PortState) : p.countMalformed.sent = p.sent := rfl

@[simp] theorem PortState.countAdmitRefused_policy (p : PortState) : p.countAdmitRefused.policy =
    p.policy := rfl
@[simp] theorem PortState.countAdmitRefused_requests (p : PortState) : p.countAdmitRefused.requests =
    p.requests := rfl
@[simp] theorem PortState.countAdmitRefused_responses (p : PortState) : p.countAdmitRefused.responses =
    p.responses := rfl
@[simp] theorem PortState.countAdmitRefused_echoes (p : PortState) : p.countAdmitRefused.echoes =
    p.echoes := rfl
@[simp] theorem PortState.countAdmitRefused_slots (p : PortState) : p.countAdmitRefused.slots =
    p.slots := rfl
@[simp] theorem PortState.countAdmitRefused_nextGroup (p : PortState) : p.countAdmitRefused.nextGroup =
    p.nextGroup := rfl
@[simp] theorem PortState.countAdmitRefused_sending (p : PortState) : p.countAdmitRefused.sending =
    p.sending := rfl
@[simp] theorem PortState.countAdmitRefused_actions (p : PortState) : p.countAdmitRefused.actions =
    p.actions := rfl
@[simp] theorem PortState.countAdmitRefused_ctr (p : PortState) :
    p.countAdmitRefused.ctr = { p.ctr with admitRefused := satAdd p.ctr.admitRefused 1 } := rfl
@[simp] theorem PortState.countAdmitRefused_sent (p : PortState) : p.countAdmitRefused.sent =
    p.sent := rfl

@[simp] theorem PortState.countUnknownTag_policy (p : PortState) : p.countUnknownTag.policy =
    p.policy := rfl
@[simp] theorem PortState.countUnknownTag_requests (p : PortState) : p.countUnknownTag.requests =
    p.requests := rfl
@[simp] theorem PortState.countUnknownTag_responses (p : PortState) : p.countUnknownTag.responses =
    p.responses := rfl
@[simp] theorem PortState.countUnknownTag_echoes (p : PortState) : p.countUnknownTag.echoes =
    p.echoes := rfl
@[simp] theorem PortState.countUnknownTag_slots (p : PortState) : p.countUnknownTag.slots =
    p.slots := rfl
@[simp] theorem PortState.countUnknownTag_nextGroup (p : PortState) : p.countUnknownTag.nextGroup =
    p.nextGroup := rfl
@[simp] theorem PortState.countUnknownTag_sending (p : PortState) : p.countUnknownTag.sending =
    p.sending := rfl
@[simp] theorem PortState.countUnknownTag_actions (p : PortState) : p.countUnknownTag.actions =
    p.actions := rfl
@[simp] theorem PortState.countUnknownTag_ctr (p : PortState) :
    p.countUnknownTag.ctr = { p.ctr with unknownTag := satAdd p.ctr.unknownTag 1 } := rfl
@[simp] theorem PortState.countUnknownTag_sent (p : PortState) : p.countUnknownTag.sent = p.sent := rfl

@[simp] theorem PortState.countUnknownClass_policy (p : PortState) : p.countUnknownClass.policy =
    p.policy := rfl
@[simp] theorem PortState.countUnknownClass_requests (p : PortState) : p.countUnknownClass.requests =
    p.requests := rfl
@[simp] theorem PortState.countUnknownClass_responses (p : PortState) : p.countUnknownClass.responses =
    p.responses := rfl
@[simp] theorem PortState.countUnknownClass_echoes (p : PortState) : p.countUnknownClass.echoes =
    p.echoes := rfl
@[simp] theorem PortState.countUnknownClass_slots (p : PortState) : p.countUnknownClass.slots =
    p.slots := rfl
@[simp] theorem PortState.countUnknownClass_nextGroup (p : PortState) : p.countUnknownClass.nextGroup =
    p.nextGroup := rfl
@[simp] theorem PortState.countUnknownClass_sending (p : PortState) : p.countUnknownClass.sending =
    p.sending := rfl
@[simp] theorem PortState.countUnknownClass_actions (p : PortState) : p.countUnknownClass.actions =
    p.actions := rfl
@[simp] theorem PortState.countUnknownClass_ctr (p : PortState) :
    p.countUnknownClass.ctr = { p.ctr with unknownClass := satAdd p.ctr.unknownClass 1 } := rfl
@[simp] theorem PortState.countUnknownClass_sent (p : PortState) : p.countUnknownClass.sent =
    p.sent := rfl

@[simp] theorem PortState.countDiscarded_policy (p : PortState) : p.countDiscarded.policy =
    p.policy := rfl
@[simp] theorem PortState.countDiscarded_requests (p : PortState) : p.countDiscarded.requests =
    p.requests := rfl
@[simp] theorem PortState.countDiscarded_responses (p : PortState) : p.countDiscarded.responses =
    p.responses := rfl
@[simp] theorem PortState.countDiscarded_echoes (p : PortState) : p.countDiscarded.echoes =
    p.echoes := rfl
@[simp] theorem PortState.countDiscarded_slots (p : PortState) : p.countDiscarded.slots = p.slots := rfl
@[simp] theorem PortState.countDiscarded_nextGroup (p : PortState) : p.countDiscarded.nextGroup =
    p.nextGroup := rfl
@[simp] theorem PortState.countDiscarded_sending (p : PortState) : p.countDiscarded.sending =
    p.sending := rfl
@[simp] theorem PortState.countDiscarded_actions (p : PortState) : p.countDiscarded.actions =
    p.actions := rfl
@[simp] theorem PortState.countDiscarded_ctr (p : PortState) :
    p.countDiscarded.ctr = { p.ctr with classDiscarded := satAdd p.ctr.classDiscarded 1 } := rfl
@[simp] theorem PortState.countDiscarded_sent (p : PortState) : p.countDiscarded.sent = p.sent := rfl

@[simp] theorem PortState.countOverflow_policy (p : PortState) : p.countOverflow.policy =
    p.policy := rfl
@[simp] theorem PortState.countOverflow_requests (p : PortState) : p.countOverflow.requests =
    p.requests := rfl
@[simp] theorem PortState.countOverflow_responses (p : PortState) : p.countOverflow.responses =
    p.responses := rfl
@[simp] theorem PortState.countOverflow_echoes (p : PortState) : p.countOverflow.echoes =
    p.echoes := rfl
@[simp] theorem PortState.countOverflow_slots (p : PortState) : p.countOverflow.slots = p.slots := rfl
@[simp] theorem PortState.countOverflow_nextGroup (p : PortState) : p.countOverflow.nextGroup =
    p.nextGroup := rfl
@[simp] theorem PortState.countOverflow_sending (p : PortState) : p.countOverflow.sending =
    p.sending := rfl
@[simp] theorem PortState.countOverflow_actions (p : PortState) : p.countOverflow.actions =
    p.actions := rfl
@[simp] theorem PortState.countOverflow_ctr (p : PortState) :
    p.countOverflow.ctr = { p.ctr with requestOverflow := satAdd p.ctr.requestOverflow 1 } := rfl
@[simp] theorem PortState.countOverflow_sent (p : PortState) : p.countOverflow.sent = p.sent := rfl

@[simp] theorem PortState.countEchoDropped_policy (p : PortState) : p.countEchoDropped.policy =
    p.policy := rfl
@[simp] theorem PortState.countEchoDropped_requests (p : PortState) : p.countEchoDropped.requests =
    p.requests := rfl
@[simp] theorem PortState.countEchoDropped_responses (p : PortState) : p.countEchoDropped.responses =
    p.responses := rfl
@[simp] theorem PortState.countEchoDropped_echoes (p : PortState) : p.countEchoDropped.echoes =
    p.echoes := rfl
@[simp] theorem PortState.countEchoDropped_slots (p : PortState) : p.countEchoDropped.slots =
    p.slots := rfl
@[simp] theorem PortState.countEchoDropped_nextGroup (p : PortState) : p.countEchoDropped.nextGroup =
    p.nextGroup := rfl
@[simp] theorem PortState.countEchoDropped_sending (p : PortState) : p.countEchoDropped.sending =
    p.sending := rfl
@[simp] theorem PortState.countEchoDropped_actions (p : PortState) : p.countEchoDropped.actions =
    p.actions := rfl
@[simp] theorem PortState.countEchoDropped_ctr (p : PortState) :
    p.countEchoDropped.ctr = { p.ctr with echoDropped := satAdd p.ctr.echoDropped 1 } := rfl
@[simp] theorem PortState.countEchoDropped_sent (p : PortState) : p.countEchoDropped.sent =
    p.sent := rfl

@[simp] theorem PortState.countReplaced_policy (p : PortState) : p.countReplaced.policy =
    p.policy := rfl
@[simp] theorem PortState.countReplaced_requests (p : PortState) : p.countReplaced.requests =
    p.requests := rfl
@[simp] theorem PortState.countReplaced_responses (p : PortState) : p.countReplaced.responses =
    p.responses := rfl
@[simp] theorem PortState.countReplaced_echoes (p : PortState) : p.countReplaced.echoes =
    p.echoes := rfl
@[simp] theorem PortState.countReplaced_slots (p : PortState) : p.countReplaced.slots = p.slots := rfl
@[simp] theorem PortState.countReplaced_nextGroup (p : PortState) : p.countReplaced.nextGroup =
    p.nextGroup := rfl
@[simp] theorem PortState.countReplaced_sending (p : PortState) : p.countReplaced.sending =
    p.sending := rfl
@[simp] theorem PortState.countReplaced_actions (p : PortState) : p.countReplaced.actions =
    p.actions := rfl
@[simp] theorem PortState.countReplaced_ctr (p : PortState) :
    p.countReplaced.ctr = { p.ctr with telemetryReplaced := satAdd p.ctr.telemetryReplaced 1 } := rfl
@[simp] theorem PortState.countReplaced_sent (p : PortState) : p.countReplaced.sent = p.sent := rfl

@[simp] theorem PortState.countExcess_policy (p : PortState) : p.countExcess.policy = p.policy := rfl
@[simp] theorem PortState.countExcess_requests (p : PortState) : p.countExcess.requests =
    p.requests := rfl
@[simp] theorem PortState.countExcess_responses (p : PortState) : p.countExcess.responses =
    p.responses := rfl
@[simp] theorem PortState.countExcess_echoes (p : PortState) : p.countExcess.echoes = p.echoes := rfl
@[simp] theorem PortState.countExcess_slots (p : PortState) : p.countExcess.slots = p.slots := rfl
@[simp] theorem PortState.countExcess_nextGroup (p : PortState) : p.countExcess.nextGroup =
    p.nextGroup := rfl
@[simp] theorem PortState.countExcess_sending (p : PortState) : p.countExcess.sending = p.sending := rfl
@[simp] theorem PortState.countExcess_actions (p : PortState) : p.countExcess.actions = p.actions := rfl
@[simp] theorem PortState.countExcess_ctr (p : PortState) :
    p.countExcess.ctr = { p.ctr with excessSamples := satAdd p.ctr.excessSamples 1 } := rfl
@[simp] theorem PortState.countExcess_sent (p : PortState) : p.countExcess.sent = p.sent := rfl

@[simp] theorem PortState.land_policy (p : PortState) :
    p.land.policy = defaultPolicy := rfl
@[simp] theorem PortState.land_requests (p : PortState) :
    p.land.requests = [] := rfl
@[simp] theorem PortState.land_responses (p : PortState) :
    p.land.responses = [] := rfl
@[simp] theorem PortState.land_echoes (p : PortState) :
    p.land.echoes = [] := rfl
@[simp] theorem PortState.land_slots (p : PortState) :
    p.land.slots = Tab.fill none := rfl
@[simp] theorem PortState.land_nextGroup (p : PortState) :
    p.land.nextGroup = 0 := rfl
@[simp] theorem PortState.land_sending (p : PortState) :
    p.land.sending = p.sending.map fun f => { f with source := .detached } := rfl
@[simp] theorem PortState.land_actions (p : PortState) :
    p.land.actions = Tab.fill .execute := rfl
@[simp] theorem PortState.land_ctr (p : PortState) :
    p.land.ctr = defaultPortCounters := rfl
@[simp] theorem PortState.land_sent (p : PortState) : p.land.sent = p.sent := rfl

@[simp] theorem PortState.finish_policy (p : PortState) (f : Sending) : (p.finish f).policy =
    p.policy := rfl
@[simp] theorem PortState.finish_requests (p : PortState) (f : Sending) : (p.finish f).requests =
    p.requests := rfl
@[simp] theorem PortState.finish_responses (p : PortState) (f : Sending) :
    (p.finish f).responses = if f.source = .response then p.responses.tail else p.responses := rfl
@[simp] theorem PortState.finish_echoes (p : PortState) (f : Sending) :
    (p.finish f).echoes = if f.source = .echo then p.echoes.tail else p.echoes := rfl
@[simp] theorem PortState.finish_slots (p : PortState) (f : Sending) : (p.finish f).slots =
    p.slots := rfl
@[simp] theorem PortState.finish_nextGroup (p : PortState) (f : Sending) : (p.finish f).nextGroup =
    p.nextGroup := rfl
@[simp] theorem PortState.finish_sending (p : PortState) (f : Sending) :
    (p.finish f).sending = none := rfl
@[simp] theorem PortState.finish_actions (p : PortState) (f : Sending) : (p.finish f).actions =
    p.actions := rfl
@[simp] theorem PortState.finish_ctr (p : PortState) (f : Sending) : (p.finish f).ctr = p.ctr := rfl
@[simp] theorem PortState.finish_sent (p : PortState) (f : Sending) :
    (p.finish f).sent = p.sent ++ [f.frame.bytes] := rfl

/-! ## The device -/

@[simp] theorem State.setGroup_pins (s : State) (g : GroupIx) (x : Group) : (s.setGroup g x).pins =
    s.pins := rfl
@[simp] theorem State.setGroup_straps (s : State) (g : GroupIx) (x : Group) : (s.setGroup g x).straps =
    s.straps := rfl
@[simp] theorem State.setGroup_rate (s : State) (g : GroupIx) (x : Group) : (s.setGroup g x).rate =
    s.rate := rfl
@[simp] theorem State.setGroup_portA (s : State) (g : GroupIx) (x : Group) : (s.setGroup g x).portA =
    s.portA := rfl
@[simp] theorem State.setGroup_portB (s : State) (g : GroupIx) (x : Group) : (s.setGroup g x).portB =
    s.portB := rfl
@[simp] theorem State.setGroup_map (s : State) (g : GroupIx) (x : Group) : (s.setGroup g x).map =
    s.map := rfl
@[simp] theorem State.setGroup_groups (s : State) (g : GroupIx) (x : Group) :
    (s.setGroup g x).groups = s.groups.set g x := rfl
@[simp] theorem State.setGroup_limitSets (s : State) (g : GroupIx) (x : Group) : (s.setGroup g x).limitSets =
    s.limitSets := rfl
@[simp] theorem State.setGroup_watchdog (s : State) (g : GroupIx) (x : Group) : (s.setGroup g x).watchdog =
    s.watchdog := rfl
@[simp] theorem State.setGroup_interlockOpen (s : State) (g : GroupIx) (x : Group) : (s.setGroup g x).interlockOpen =
    s.interlockOpen := rfl
@[simp] theorem State.setGroup_alertMask (s : State) (g : GroupIx) (x : Group) : (s.setGroup g x).alertMask =
    s.alertMask := rfl
@[simp] theorem State.setGroup_faultLine (s : State) (g : GroupIx) (x : Group) : (s.setGroup g x).faultLine =
    s.faultLine := rfl
@[simp] theorem State.setGroup_alertLine (s : State) (g : GroupIx) (x : Group) : (s.setGroup g x).alertLine =
    s.alertLine := rfl
@[simp] theorem State.setGroup_preferred (s : State) (g : GroupIx) (x : Group) : (s.setGroup g x).preferred =
    s.preferred := rfl
@[simp] theorem State.setGroup_resetInFlight (s : State) (g : GroupIx) (x : Group) : (s.setGroup g x).resetInFlight =
    s.resetInFlight := rfl
@[simp] theorem State.setGroup_servo (s : State) (g : GroupIx) (x : Group) : (s.setGroup g x).servo =
    s.servo := rfl
@[simp] theorem State.setGroup_servoSent (s : State) (g : GroupIx) (x : Group) : (s.setGroup g x).servoSent =
    s.servoSent := rfl
@[simp] theorem State.setGroup_freeCount (s : State) (g : GroupIx) (x : Group) : (s.setGroup g x).freeCount =
    s.freeCount := rfl
@[simp] theorem State.setGroup_pending (s : State) (g : GroupIx) (x : Group) : (s.setGroup g x).pending =
    s.pending := rfl

@[simp] theorem State.modGroup_pins (s : State) (g : GroupIx) (f : Group → Group) : (s.modGroup g f).pins =
    s.pins := rfl
@[simp] theorem State.modGroup_straps (s : State) (g : GroupIx) (f : Group → Group) : (s.modGroup g f).straps =
    s.straps := rfl
@[simp] theorem State.modGroup_rate (s : State) (g : GroupIx) (f : Group → Group) : (s.modGroup g f).rate =
    s.rate := rfl
@[simp] theorem State.modGroup_portA (s : State) (g : GroupIx) (f : Group → Group) : (s.modGroup g f).portA =
    s.portA := rfl
@[simp] theorem State.modGroup_portB (s : State) (g : GroupIx) (f : Group → Group) : (s.modGroup g f).portB =
    s.portB := rfl
@[simp] theorem State.modGroup_map (s : State) (g : GroupIx) (f : Group → Group) : (s.modGroup g f).map =
    s.map := rfl
@[simp] theorem State.modGroup_groups (s : State) (g : GroupIx) (f : Group → Group) :
    (s.modGroup g f).groups = s.groups.set g (f (s.group g)) := rfl
@[simp] theorem State.modGroup_limitSets (s : State) (g : GroupIx) (f : Group → Group) : (s.modGroup g f).limitSets =
    s.limitSets := rfl
@[simp] theorem State.modGroup_watchdog (s : State) (g : GroupIx) (f : Group → Group) : (s.modGroup g f).watchdog =
    s.watchdog := rfl
@[simp] theorem State.modGroup_interlockOpen (s : State) (g : GroupIx) (f : Group → Group) : (s.modGroup g f).interlockOpen =
    s.interlockOpen := rfl
@[simp] theorem State.modGroup_alertMask (s : State) (g : GroupIx) (f : Group → Group) : (s.modGroup g f).alertMask =
    s.alertMask := rfl
@[simp] theorem State.modGroup_faultLine (s : State) (g : GroupIx) (f : Group → Group) : (s.modGroup g f).faultLine =
    s.faultLine := rfl
@[simp] theorem State.modGroup_alertLine (s : State) (g : GroupIx) (f : Group → Group) : (s.modGroup g f).alertLine =
    s.alertLine := rfl
@[simp] theorem State.modGroup_preferred (s : State) (g : GroupIx) (f : Group → Group) : (s.modGroup g f).preferred =
    s.preferred := rfl
@[simp] theorem State.modGroup_resetInFlight (s : State) (g : GroupIx) (f : Group → Group) : (s.modGroup g f).resetInFlight =
    s.resetInFlight := rfl
@[simp] theorem State.modGroup_servo (s : State) (g : GroupIx) (f : Group → Group) : (s.modGroup g f).servo =
    s.servo := rfl
@[simp] theorem State.modGroup_servoSent (s : State) (g : GroupIx) (f : Group → Group) : (s.modGroup g f).servoSent =
    s.servoSent := rfl
@[simp] theorem State.modGroup_freeCount (s : State) (g : GroupIx) (f : Group → Group) : (s.modGroup g f).freeCount =
    s.freeCount := rfl
@[simp] theorem State.modGroup_pending (s : State) (g : GroupIx) (f : Group → Group) : (s.modGroup g f).pending =
    s.pending := rfl

@[simp] theorem State.driveLines_pins (s : State) : s.driveLines.pins = s.pins := rfl
@[simp] theorem State.driveLines_straps (s : State) : s.driveLines.straps = s.straps := rfl
@[simp] theorem State.driveLines_rate (s : State) : s.driveLines.rate = s.rate := rfl
@[simp] theorem State.driveLines_portA (s : State) : s.driveLines.portA = s.portA := rfl
@[simp] theorem State.driveLines_portB (s : State) : s.driveLines.portB = s.portB := rfl
@[simp] theorem State.driveLines_map (s : State) : s.driveLines.map = s.map := rfl
@[simp] theorem State.driveLines_groups (s : State) : s.driveLines.groups = s.groups := rfl
@[simp] theorem State.driveLines_limitSets (s : State) : s.driveLines.limitSets = s.limitSets := rfl
@[simp] theorem State.driveLines_watchdog (s : State) : s.driveLines.watchdog = s.watchdog := rfl
@[simp] theorem State.driveLines_interlockOpen (s : State) : s.driveLines.interlockOpen =
    s.interlockOpen := rfl
@[simp] theorem State.driveLines_alertMask (s : State) : s.driveLines.alertMask = s.alertMask := rfl
@[simp] theorem State.driveLines_faultLine (s : State) :
    s.driveLines.faultLine = faultOf s.groups := rfl
@[simp] theorem State.driveLines_alertLine (s : State) :
    s.driveLines.alertLine = alertOf s.groups s.alertMask := rfl
@[simp] theorem State.driveLines_preferred (s : State) : s.driveLines.preferred = s.preferred := rfl
@[simp] theorem State.driveLines_resetInFlight (s : State) : s.driveLines.resetInFlight =
    s.resetInFlight := rfl
@[simp] theorem State.driveLines_servo (s : State) : s.driveLines.servo = s.servo := rfl
@[simp] theorem State.driveLines_servoSent (s : State) : s.driveLines.servoSent = s.servoSent := rfl
@[simp] theorem State.driveLines_freeCount (s : State) : s.driveLines.freeCount = s.freeCount := rfl
@[simp] theorem State.driveLines_pending (s : State) : s.driveLines.pending = s.pending := rfl

@[simp] theorem State.countServoFrame_pins (s : State) : s.countServoFrame.pins = s.pins := rfl
@[simp] theorem State.countServoFrame_straps (s : State) : s.countServoFrame.straps = s.straps := rfl
@[simp] theorem State.countServoFrame_rate (s : State) : s.countServoFrame.rate = s.rate := rfl
@[simp] theorem State.countServoFrame_portA (s : State) : s.countServoFrame.portA = s.portA := rfl
@[simp] theorem State.countServoFrame_portB (s : State) : s.countServoFrame.portB = s.portB := rfl
@[simp] theorem State.countServoFrame_map (s : State) : s.countServoFrame.map = s.map := rfl
@[simp] theorem State.countServoFrame_groups (s : State) : s.countServoFrame.groups = s.groups := rfl
@[simp] theorem State.countServoFrame_limitSets (s : State) : s.countServoFrame.limitSets =
    s.limitSets := rfl
@[simp] theorem State.countServoFrame_watchdog (s : State) : s.countServoFrame.watchdog =
    s.watchdog := rfl
@[simp] theorem State.countServoFrame_interlockOpen (s : State) : s.countServoFrame.interlockOpen =
    s.interlockOpen := rfl
@[simp] theorem State.countServoFrame_alertMask (s : State) : s.countServoFrame.alertMask =
    s.alertMask := rfl
@[simp] theorem State.countServoFrame_faultLine (s : State) : s.countServoFrame.faultLine =
    s.faultLine := rfl
@[simp] theorem State.countServoFrame_alertLine (s : State) : s.countServoFrame.alertLine =
    s.alertLine := rfl
@[simp] theorem State.countServoFrame_preferred (s : State) : s.countServoFrame.preferred =
    s.preferred := rfl
@[simp] theorem State.countServoFrame_resetInFlight (s : State) : s.countServoFrame.resetInFlight =
    s.resetInFlight := rfl
@[simp] theorem State.countServoFrame_servo (s : State) :
    s.countServoFrame.servo = { s.servo with framesReceived := satAdd s.servo.framesReceived 1 } := rfl
@[simp] theorem State.countServoFrame_servoSent (s : State) : s.countServoFrame.servoSent =
    s.servoSent := rfl
@[simp] theorem State.countServoFrame_freeCount (s : State) : s.countServoFrame.freeCount =
    s.freeCount := rfl
@[simp] theorem State.countServoFrame_pending (s : State) : s.countServoFrame.pending = s.pending := rfl

@[simp] theorem State.expireWatchdog_pins (s : State) : s.expireWatchdog.pins = s.pins := rfl
@[simp] theorem State.expireWatchdog_straps (s : State) : s.expireWatchdog.straps = s.straps := rfl
@[simp] theorem State.expireWatchdog_rate (s : State) : s.expireWatchdog.rate = s.rate := rfl
@[simp] theorem State.expireWatchdog_portA (s : State) : s.expireWatchdog.portA = s.portA := rfl
@[simp] theorem State.expireWatchdog_portB (s : State) : s.expireWatchdog.portB = s.portB := rfl
@[simp] theorem State.expireWatchdog_map (s : State) : s.expireWatchdog.map = s.map := rfl
@[simp] theorem State.expireWatchdog_groups (s : State) :
    s.expireWatchdog.groups = s.groups.map fun (g : Group) => g.tripAll g.watchdogEvents := rfl
@[simp] theorem State.expireWatchdog_limitSets (s : State) : s.expireWatchdog.limitSets =
    s.limitSets := rfl
@[simp] theorem State.expireWatchdog_watchdog (s : State) :
    s.expireWatchdog.watchdog = { s.watchdog with remaining := 0, state := .expired } := rfl
@[simp] theorem State.expireWatchdog_interlockOpen (s : State) : s.expireWatchdog.interlockOpen =
    s.interlockOpen := rfl
@[simp] theorem State.expireWatchdog_alertMask (s : State) : s.expireWatchdog.alertMask =
    s.alertMask := rfl
@[simp] theorem State.expireWatchdog_preferred (s : State) : s.expireWatchdog.preferred =
    s.preferred := rfl
@[simp] theorem State.expireWatchdog_resetInFlight (s : State) : s.expireWatchdog.resetInFlight =
    s.resetInFlight := rfl
@[simp] theorem State.expireWatchdog_servo (s : State) : s.expireWatchdog.servo = s.servo := rfl
@[simp] theorem State.expireWatchdog_servoSent (s : State) : s.expireWatchdog.servoSent =
    s.servoSent := rfl
@[simp] theorem State.expireWatchdog_freeCount (s : State) : s.expireWatchdog.freeCount =
    s.freeCount := rfl
@[simp] theorem State.expireWatchdog_pending (s : State) : s.expireWatchdog.pending = s.pending := rfl

@[simp] theorem State.clearFaults_pins (s : State) (gs : List GroupIx) : (s.clearFaults gs).pins =
    s.pins := rfl
@[simp] theorem State.clearFaults_straps (s : State) (gs : List GroupIx) : (s.clearFaults gs).straps =
    s.straps := rfl
@[simp] theorem State.clearFaults_rate (s : State) (gs : List GroupIx) : (s.clearFaults gs).rate =
    s.rate := rfl
@[simp] theorem State.clearFaults_portA (s : State) (gs : List GroupIx) : (s.clearFaults gs).portA =
    s.portA := rfl
@[simp] theorem State.clearFaults_portB (s : State) (gs : List GroupIx) : (s.clearFaults gs).portB =
    s.portB := rfl
@[simp] theorem State.clearFaults_map (s : State) (gs : List GroupIx) : (s.clearFaults gs).map =
    s.map := rfl
@[simp] theorem State.clearFaults_limitSets (s : State) (gs : List GroupIx) : (s.clearFaults gs).limitSets =
    s.limitSets := rfl
@[simp] theorem State.clearFaults_watchdog (s : State) (gs : List GroupIx) : (s.clearFaults gs).watchdog =
    s.watchdog := rfl
@[simp] theorem State.clearFaults_interlockOpen (s : State) (gs : List GroupIx) : (s.clearFaults gs).interlockOpen =
    s.interlockOpen := rfl
@[simp] theorem State.clearFaults_alertMask (s : State) (gs : List GroupIx) : (s.clearFaults gs).alertMask =
    s.alertMask := rfl
@[simp] theorem State.clearFaults_preferred (s : State) (gs : List GroupIx) : (s.clearFaults gs).preferred =
    s.preferred := rfl
@[simp] theorem State.clearFaults_resetInFlight (s : State) (gs : List GroupIx) : (s.clearFaults gs).resetInFlight =
    s.resetInFlight := rfl
@[simp] theorem State.clearFaults_servo (s : State) (gs : List GroupIx) : (s.clearFaults gs).servo =
    s.servo := rfl
@[simp] theorem State.clearFaults_servoSent (s : State) (gs : List GroupIx) : (s.clearFaults gs).servoSent =
    s.servoSent := rfl
@[simp] theorem State.clearFaults_freeCount (s : State) (gs : List GroupIx) : (s.clearFaults gs).freeCount =
    s.freeCount := rfl
@[simp] theorem State.clearFaults_pending (s : State) (gs : List GroupIx) : (s.clearFaults gs).pending =
    s.pending := rfl

end Sys2Proof.Machine
end

