-- ==== Sys2Proof/Laws/Device.lean ====
section
/-! SUPPORT. The device's state after an update of one port, after a take of a request's head, and after a
response and an echo: what each leaves in each field, and in each port and group. -/

namespace Sys2Proof.Machine

/-! ## Ports and groups read after an update -/

@[simp] theorem otherPort_otherPort (p : Port) : otherPort (otherPort p) = p := by cases p <;> rfl

@[simp] theorem otherPort_ne (p : Port) : otherPort p ≠ p := by cases p <;> decide

@[simp] theorem ne_otherPort (p : Port) : p ≠ otherPort p := by cases p <;> decide

theorem eq_or_eq_otherPort (p q : Port) : q = p ∨ q = otherPort p := by cases p <;> cases q <;> decide

@[simp] theorem State.port_setPort (s : State) (p : Port) (x : PortState) : (s.setPort p x).port p = x := by
  cases p <;> rfl

@[simp] theorem State.port_setPort_other (s : State) (p : Port) (x : PortState) :
    (s.setPort p x).port (otherPort p) = s.port (otherPort p) := by cases p <;> rfl

@[simp] theorem State.port_setPort_other' (s : State) (p : Port) (x : PortState) :
    (s.setPort (otherPort p) x).port p = s.port p := by cases p <;> rfl

@[simp] theorem State.group_setPort (s : State) (p : Port) (x : PortState) (g : GroupIx) :
    (s.setPort p x).group g = s.group g := by cases p <;> rfl

@[simp] theorem State.port_modPort (s : State) (p : Port) (f : PortState → PortState) :
    (s.modPort p f).port p = f (s.port p) := by simp [State.modPort]

@[simp] theorem State.port_modPort_other (s : State) (p : Port) (f : PortState → PortState) :
    (s.modPort p f).port (otherPort p) = s.port (otherPort p) := by simp [State.modPort]

@[simp] theorem State.port_modPort_other' (s : State) (p : Port) (f : PortState → PortState) :
    (s.modPort (otherPort p) f).port p = s.port p := by simp [State.modPort]

@[simp] theorem State.group_modPort (s : State) (p : Port) (f : PortState → PortState) (g : GroupIx) :
    (s.modPort p f).group g = s.group g := by simp [State.modPort]

@[simp] theorem State.group_setGroup (s : State) (g : GroupIx) (x : Group) : (s.setGroup g x).group g = x := by
  simp [State.group]

theorem State.group_setGroup_ne (s : State) {g h : GroupIx} (x : Group) (hne : h ≠ g) :
    (s.setGroup g x).group h = s.group h := by simp [State.group, Tab.get_set_ne _ _ hne.symm]

@[simp] theorem State.port_setGroup (s : State) (g : GroupIx) (x : Group) (p : Port) :
    (s.setGroup g x).port p = s.port p := by cases p <;> rfl

@[simp] theorem State.group_modGroup (s : State) (g : GroupIx) (f : Group → Group) :
    (s.modGroup g f).group g = f (s.group g) := by simp [State.modGroup]

theorem State.group_modGroup_ne (s : State) {g h : GroupIx} (f : Group → Group) (hne : h ≠ g) :
    (s.modGroup g f).group h = s.group h := State.group_setGroup_ne s _ hne

@[simp] theorem State.port_modGroup (s : State) (g : GroupIx) (f : Group → Group) (p : Port) :
    (s.modGroup g f).port p = s.port p := by simp [State.modGroup]

@[simp] theorem State.group_driveLines (s : State) (g : GroupIx) : s.driveLines.group g = s.group g := rfl

@[simp] theorem State.port_driveLines (s : State) (p : Port) : s.driveLines.port p = s.port p := by
  cases p <;> rfl

@[simp] theorem State.setGroup_group (s : State) (g : GroupIx) : s.setGroup g (s.group g) = s := by
  simp [State.setGroup, State.group]

@[simp] theorem State.group_dequeue (s : State) (p : Port) (g : GroupIx) :
    (s.dequeue p).group g = s.group g := by cases p <;> rfl

@[simp] theorem State.port_dequeue (s : State) (p : Port) :
    (s.dequeue p).port p = { s.port p with requests := (s.port p).requests.tail } := by cases p <;> rfl

@[simp] theorem State.port_dequeue_other (s : State) (p : Port) :
    (s.dequeue p).port (otherPort p) = s.port (otherPort p) := by cases p <;> rfl


/-! ## An update of one port -/

@[simp] theorem State.setPort_pins (s : State) (p : Port) (x : PortState) :
    (s.setPort p x).pins = s.pins := by cases p <;> rfl
@[simp] theorem State.setPort_straps (s : State) (p : Port) (x : PortState) :
    (s.setPort p x).straps = s.straps := by cases p <;> rfl
@[simp] theorem State.setPort_rate (s : State) (p : Port) (x : PortState) :
    (s.setPort p x).rate = s.rate := by cases p <;> rfl
@[simp] theorem State.setPort_map (s : State) (p : Port) (x : PortState) :
    (s.setPort p x).map = s.map := by cases p <;> rfl
@[simp] theorem State.setPort_groups (s : State) (p : Port) (x : PortState) :
    (s.setPort p x).groups = s.groups := by cases p <;> rfl
@[simp] theorem State.setPort_limitSets (s : State) (p : Port) (x : PortState) :
    (s.setPort p x).limitSets = s.limitSets := by cases p <;> rfl
@[simp] theorem State.setPort_watchdog (s : State) (p : Port) (x : PortState) :
    (s.setPort p x).watchdog = s.watchdog := by cases p <;> rfl
@[simp] theorem State.setPort_interlockOpen (s : State) (p : Port) (x : PortState) :
    (s.setPort p x).interlockOpen = s.interlockOpen := by cases p <;> rfl
@[simp] theorem State.setPort_alertMask (s : State) (p : Port) (x : PortState) :
    (s.setPort p x).alertMask = s.alertMask := by cases p <;> rfl
@[simp] theorem State.setPort_faultLine (s : State) (p : Port) (x : PortState) :
    (s.setPort p x).faultLine = s.faultLine := by cases p <;> rfl
@[simp] theorem State.setPort_alertLine (s : State) (p : Port) (x : PortState) :
    (s.setPort p x).alertLine = s.alertLine := by cases p <;> rfl
@[simp] theorem State.setPort_preferred (s : State) (p : Port) (x : PortState) :
    (s.setPort p x).preferred = s.preferred := by cases p <;> rfl
@[simp] theorem State.setPort_resetInFlight (s : State) (p : Port) (x : PortState) :
    (s.setPort p x).resetInFlight = s.resetInFlight := by cases p <;> rfl
@[simp] theorem State.setPort_servo (s : State) (p : Port) (x : PortState) :
    (s.setPort p x).servo = s.servo := by cases p <;> rfl
@[simp] theorem State.setPort_servoSent (s : State) (p : Port) (x : PortState) :
    (s.setPort p x).servoSent = s.servoSent := by cases p <;> rfl
@[simp] theorem State.setPort_freeCount (s : State) (p : Port) (x : PortState) :
    (s.setPort p x).freeCount = s.freeCount := by cases p <;> rfl
@[simp] theorem State.setPort_pending (s : State) (p : Port) (x : PortState) :
    (s.setPort p x).pending = s.pending := by cases p <;> rfl

/-! ## A port changed in place -/

@[simp] theorem State.modPort_pins (s : State) (p : Port) (f : PortState → PortState) :
    (s.modPort p f).pins = s.pins := by cases p <;> rfl
@[simp] theorem State.modPort_straps (s : State) (p : Port) (f : PortState → PortState) :
    (s.modPort p f).straps = s.straps := by cases p <;> rfl
@[simp] theorem State.modPort_rate (s : State) (p : Port) (f : PortState → PortState) :
    (s.modPort p f).rate = s.rate := by cases p <;> rfl
@[simp] theorem State.modPort_map (s : State) (p : Port) (f : PortState → PortState) :
    (s.modPort p f).map = s.map := by cases p <;> rfl
@[simp] theorem State.modPort_groups (s : State) (p : Port) (f : PortState → PortState) :
    (s.modPort p f).groups = s.groups := by cases p <;> rfl
@[simp] theorem State.modPort_limitSets (s : State) (p : Port) (f : PortState → PortState) :
    (s.modPort p f).limitSets = s.limitSets := by cases p <;> rfl
@[simp] theorem State.modPort_watchdog (s : State) (p : Port) (f : PortState → PortState) :
    (s.modPort p f).watchdog = s.watchdog := by cases p <;> rfl
@[simp] theorem State.modPort_interlockOpen (s : State) (p : Port) (f : PortState → PortState) :
    (s.modPort p f).interlockOpen = s.interlockOpen := by cases p <;> rfl
@[simp] theorem State.modPort_alertMask (s : State) (p : Port) (f : PortState → PortState) :
    (s.modPort p f).alertMask = s.alertMask := by cases p <;> rfl
@[simp] theorem State.modPort_faultLine (s : State) (p : Port) (f : PortState → PortState) :
    (s.modPort p f).faultLine = s.faultLine := by cases p <;> rfl
@[simp] theorem State.modPort_alertLine (s : State) (p : Port) (f : PortState → PortState) :
    (s.modPort p f).alertLine = s.alertLine := by cases p <;> rfl
@[simp] theorem State.modPort_preferred (s : State) (p : Port) (f : PortState → PortState) :
    (s.modPort p f).preferred = s.preferred := by cases p <;> rfl
@[simp] theorem State.modPort_resetInFlight (s : State) (p : Port) (f : PortState → PortState) :
    (s.modPort p f).resetInFlight = s.resetInFlight := by cases p <;> rfl
@[simp] theorem State.modPort_servo (s : State) (p : Port) (f : PortState → PortState) :
    (s.modPort p f).servo = s.servo := by cases p <;> rfl
@[simp] theorem State.modPort_servoSent (s : State) (p : Port) (f : PortState → PortState) :
    (s.modPort p f).servoSent = s.servoSent := by cases p <;> rfl
@[simp] theorem State.modPort_freeCount (s : State) (p : Port) (f : PortState → PortState) :
    (s.modPort p f).freeCount = s.freeCount := by cases p <;> rfl
@[simp] theorem State.modPort_pending (s : State) (p : Port) (f : PortState → PortState) :
    (s.modPort p f).pending = s.pending := by cases p <;> rfl

/-! ## A request's head taken -/

@[simp] theorem State.dequeue_pins (s : State) (p : Port) :
    (s.dequeue p).pins = s.pins := by cases p <;> rfl
@[simp] theorem State.dequeue_straps (s : State) (p : Port) :
    (s.dequeue p).straps = s.straps := by cases p <;> rfl
@[simp] theorem State.dequeue_rate (s : State) (p : Port) :
    (s.dequeue p).rate = s.rate := by cases p <;> rfl
@[simp] theorem State.dequeue_map (s : State) (p : Port) :
    (s.dequeue p).map = s.map := by cases p <;> rfl
@[simp] theorem State.dequeue_groups (s : State) (p : Port) :
    (s.dequeue p).groups = s.groups := by cases p <;> rfl
@[simp] theorem State.dequeue_limitSets (s : State) (p : Port) :
    (s.dequeue p).limitSets = s.limitSets := by cases p <;> rfl
@[simp] theorem State.dequeue_watchdog (s : State) (p : Port) :
    (s.dequeue p).watchdog = s.watchdog := by cases p <;> rfl
@[simp] theorem State.dequeue_interlockOpen (s : State) (p : Port) :
    (s.dequeue p).interlockOpen = s.interlockOpen := by cases p <;> rfl
@[simp] theorem State.dequeue_alertMask (s : State) (p : Port) :
    (s.dequeue p).alertMask = s.alertMask := by cases p <;> rfl
@[simp] theorem State.dequeue_faultLine (s : State) (p : Port) :
    (s.dequeue p).faultLine = s.faultLine := by cases p <;> rfl
@[simp] theorem State.dequeue_alertLine (s : State) (p : Port) :
    (s.dequeue p).alertLine = s.alertLine := by cases p <;> rfl
@[simp] theorem State.dequeue_resetInFlight (s : State) (p : Port) :
    (s.dequeue p).resetInFlight = s.resetInFlight := by cases p <;> rfl
@[simp] theorem State.dequeue_servo (s : State) (p : Port) :
    (s.dequeue p).servo = s.servo := by cases p <;> rfl
@[simp] theorem State.dequeue_servoSent (s : State) (p : Port) :
    (s.dequeue p).servoSent = s.servoSent := by cases p <;> rfl
@[simp] theorem State.dequeue_freeCount (s : State) (p : Port) :
    (s.dequeue p).freeCount = s.freeCount := by cases p <;> rfl
@[simp] theorem State.dequeue_pending (s : State) (p : Port) :
    (s.dequeue p).pending = s.pending := by cases p <;> rfl
@[simp] theorem State.dequeue_preferred (s : State) (p : Port) :
    (s.dequeue p).preferred = otherPort p := rfl

/-! ## A response -/

@[simp] theorem State.respond_pins (s : State) (p : Port) (q : Request) (v : Verdict) :
    (s.respond p q v).pins = s.pins := by cases p <;> rfl
@[simp] theorem State.respond_straps (s : State) (p : Port) (q : Request) (v : Verdict) :
    (s.respond p q v).straps = s.straps := by cases p <;> rfl
@[simp] theorem State.respond_rate (s : State) (p : Port) (q : Request) (v : Verdict) :
    (s.respond p q v).rate = s.rate := by cases p <;> rfl
@[simp] theorem State.respond_map (s : State) (p : Port) (q : Request) (v : Verdict) :
    (s.respond p q v).map = s.map := by cases p <;> rfl
@[simp] theorem State.respond_groups (s : State) (p : Port) (q : Request) (v : Verdict) :
    (s.respond p q v).groups = s.groups := by cases p <;> rfl
@[simp] theorem State.respond_limitSets (s : State) (p : Port) (q : Request) (v : Verdict) :
    (s.respond p q v).limitSets = s.limitSets := by cases p <;> rfl
@[simp] theorem State.respond_watchdog (s : State) (p : Port) (q : Request) (v : Verdict) :
    (s.respond p q v).watchdog = s.watchdog := by cases p <;> rfl
@[simp] theorem State.respond_interlockOpen (s : State) (p : Port) (q : Request) (v : Verdict) :
    (s.respond p q v).interlockOpen = s.interlockOpen := by cases p <;> rfl
@[simp] theorem State.respond_alertMask (s : State) (p : Port) (q : Request) (v : Verdict) :
    (s.respond p q v).alertMask = s.alertMask := by cases p <;> rfl
@[simp] theorem State.respond_faultLine (s : State) (p : Port) (q : Request) (v : Verdict) :
    (s.respond p q v).faultLine = s.faultLine := by cases p <;> rfl
@[simp] theorem State.respond_alertLine (s : State) (p : Port) (q : Request) (v : Verdict) :
    (s.respond p q v).alertLine = s.alertLine := by cases p <;> rfl
@[simp] theorem State.respond_preferred (s : State) (p : Port) (q : Request) (v : Verdict) :
    (s.respond p q v).preferred = s.preferred := by cases p <;> rfl
@[simp] theorem State.respond_resetInFlight (s : State) (p : Port) (q : Request) (v : Verdict) :
    (s.respond p q v).resetInFlight = s.resetInFlight := by cases p <;> rfl
@[simp] theorem State.respond_servo (s : State) (p : Port) (q : Request) (v : Verdict) :
    (s.respond p q v).servo = s.servo := by cases p <;> rfl
@[simp] theorem State.respond_servoSent (s : State) (p : Port) (q : Request) (v : Verdict) :
    (s.respond p q v).servoSent = s.servoSent := by cases p <;> rfl
@[simp] theorem State.respond_freeCount (s : State) (p : Port) (q : Request) (v : Verdict) :
    (s.respond p q v).freeCount = s.freeCount := by cases p <;> rfl
@[simp] theorem State.respond_pending (s : State) (p : Port) (q : Request) (v : Verdict) :
    (s.respond p q v).pending = s.pending := by cases p <;> rfl

/-! ## An echo -/

@[simp] theorem State.echo_pins (s : State) (p : Port) (q : Request) (v : Verdict) :
    (s.echo p q v).pins = s.pins := by unfold State.echo; split <;> simp
@[simp] theorem State.echo_straps (s : State) (p : Port) (q : Request) (v : Verdict) :
    (s.echo p q v).straps = s.straps := by unfold State.echo; split <;> simp
@[simp] theorem State.echo_rate (s : State) (p : Port) (q : Request) (v : Verdict) :
    (s.echo p q v).rate = s.rate := by unfold State.echo; split <;> simp
@[simp] theorem State.echo_map (s : State) (p : Port) (q : Request) (v : Verdict) :
    (s.echo p q v).map = s.map := by unfold State.echo; split <;> simp
@[simp] theorem State.echo_groups (s : State) (p : Port) (q : Request) (v : Verdict) :
    (s.echo p q v).groups = s.groups := by unfold State.echo; split <;> simp
@[simp] theorem State.echo_limitSets (s : State) (p : Port) (q : Request) (v : Verdict) :
    (s.echo p q v).limitSets = s.limitSets := by unfold State.echo; split <;> simp
@[simp] theorem State.echo_watchdog (s : State) (p : Port) (q : Request) (v : Verdict) :
    (s.echo p q v).watchdog = s.watchdog := by unfold State.echo; split <;> simp
@[simp] theorem State.echo_interlockOpen (s : State) (p : Port) (q : Request) (v : Verdict) :
    (s.echo p q v).interlockOpen = s.interlockOpen := by unfold State.echo; split <;> simp
@[simp] theorem State.echo_alertMask (s : State) (p : Port) (q : Request) (v : Verdict) :
    (s.echo p q v).alertMask = s.alertMask := by unfold State.echo; split <;> simp
@[simp] theorem State.echo_faultLine (s : State) (p : Port) (q : Request) (v : Verdict) :
    (s.echo p q v).faultLine = s.faultLine := by unfold State.echo; split <;> simp
@[simp] theorem State.echo_alertLine (s : State) (p : Port) (q : Request) (v : Verdict) :
    (s.echo p q v).alertLine = s.alertLine := by unfold State.echo; split <;> simp
@[simp] theorem State.echo_preferred (s : State) (p : Port) (q : Request) (v : Verdict) :
    (s.echo p q v).preferred = s.preferred := by unfold State.echo; split <;> simp
@[simp] theorem State.echo_resetInFlight (s : State) (p : Port) (q : Request) (v : Verdict) :
    (s.echo p q v).resetInFlight = s.resetInFlight := by unfold State.echo; split <;> simp
@[simp] theorem State.echo_servo (s : State) (p : Port) (q : Request) (v : Verdict) :
    (s.echo p q v).servo = s.servo := by unfold State.echo; split <;> simp
@[simp] theorem State.echo_servoSent (s : State) (p : Port) (q : Request) (v : Verdict) :
    (s.echo p q v).servoSent = s.servoSent := by unfold State.echo; split <;> simp
@[simp] theorem State.echo_freeCount (s : State) (p : Port) (q : Request) (v : Verdict) :
    (s.echo p q v).freeCount = s.freeCount := by unfold State.echo; split <;> simp
@[simp] theorem State.echo_pending (s : State) (p : Port) (q : Request) (v : Verdict) :
    (s.echo p q v).pending = s.pending := by unfold State.echo; split <;> simp

/-! ## A request carried out: a refused one moves no block -/

@[simp] theorem State.carryOut_refuse_pins (s : State) (p : Port) (q : Request) (st : Status) :
    (s.carryOut p q (.refuse st)).pins = s.pins := by simp [State.carryOut, Verdict.effect]
@[simp] theorem State.carryOut_refuse_straps (s : State) (p : Port) (q : Request) (st : Status) :
    (s.carryOut p q (.refuse st)).straps = s.straps := by simp [State.carryOut, Verdict.effect]
@[simp] theorem State.carryOut_refuse_rate (s : State) (p : Port) (q : Request) (st : Status) :
    (s.carryOut p q (.refuse st)).rate = s.rate := by simp [State.carryOut, Verdict.effect]
@[simp] theorem State.carryOut_refuse_map (s : State) (p : Port) (q : Request) (st : Status) :
    (s.carryOut p q (.refuse st)).map = s.map := by simp [State.carryOut, Verdict.effect]
@[simp] theorem State.carryOut_refuse_groups (s : State) (p : Port) (q : Request) (st : Status) :
    (s.carryOut p q (.refuse st)).groups = s.groups := by simp [State.carryOut, Verdict.effect]
@[simp] theorem State.carryOut_refuse_limitSets (s : State) (p : Port) (q : Request) (st : Status) :
    (s.carryOut p q (.refuse st)).limitSets = s.limitSets := by simp [State.carryOut, Verdict.effect]
@[simp] theorem State.carryOut_refuse_watchdog (s : State) (p : Port) (q : Request) (st : Status) :
    (s.carryOut p q (.refuse st)).watchdog = s.watchdog := by simp [State.carryOut, Verdict.effect]
@[simp] theorem State.carryOut_refuse_interlockOpen (s : State) (p : Port) (q : Request) (st : Status) :
    (s.carryOut p q (.refuse st)).interlockOpen = s.interlockOpen := by simp [State.carryOut, Verdict.effect]
@[simp] theorem State.carryOut_refuse_alertMask (s : State) (p : Port) (q : Request) (st : Status) :
    (s.carryOut p q (.refuse st)).alertMask = s.alertMask := by simp [State.carryOut, Verdict.effect]
@[simp] theorem State.carryOut_refuse_faultLine (s : State) (p : Port) (q : Request) (st : Status) :
    (s.carryOut p q (.refuse st)).faultLine = s.faultLine := by simp [State.carryOut, Verdict.effect]
@[simp] theorem State.carryOut_refuse_alertLine (s : State) (p : Port) (q : Request) (st : Status) :
    (s.carryOut p q (.refuse st)).alertLine = s.alertLine := by simp [State.carryOut, Verdict.effect]
@[simp] theorem State.carryOut_refuse_resetInFlight (s : State) (p : Port) (q : Request) (st : Status) :
    (s.carryOut p q (.refuse st)).resetInFlight = s.resetInFlight := by simp [State.carryOut, Verdict.effect]
@[simp] theorem State.carryOut_refuse_servo (s : State) (p : Port) (q : Request) (st : Status) :
    (s.carryOut p q (.refuse st)).servo = s.servo := by simp [State.carryOut, Verdict.effect]
@[simp] theorem State.carryOut_refuse_servoSent (s : State) (p : Port) (q : Request) (st : Status) :
    (s.carryOut p q (.refuse st)).servoSent = s.servoSent := by simp [State.carryOut, Verdict.effect]
@[simp] theorem State.carryOut_refuse_freeCount (s : State) (p : Port) (q : Request) (st : Status) :
    (s.carryOut p q (.refuse st)).freeCount = s.freeCount := by simp [State.carryOut, Verdict.effect]
@[simp] theorem State.carryOut_refuse_pending (s : State) (p : Port) (q : Request) (st : Status) :
    (s.carryOut p q (.refuse st)).pending = s.pending := by simp [State.carryOut, Verdict.effect]
@[simp] theorem State.carryOut_take_pins (s t : State) (p : Port) (q : Request) (b : Bool)
    (bs : List Byte) : (s.carryOut p q (.take b bs t)).pins = t.pins := by
  simp [State.carryOut, Verdict.effect]
@[simp] theorem State.carryOut_take_straps (s t : State) (p : Port) (q : Request) (b : Bool)
    (bs : List Byte) : (s.carryOut p q (.take b bs t)).straps = t.straps := by
  simp [State.carryOut, Verdict.effect]
@[simp] theorem State.carryOut_take_rate (s t : State) (p : Port) (q : Request) (b : Bool)
    (bs : List Byte) : (s.carryOut p q (.take b bs t)).rate = t.rate := by
  simp [State.carryOut, Verdict.effect]
@[simp] theorem State.carryOut_take_map (s t : State) (p : Port) (q : Request) (b : Bool)
    (bs : List Byte) : (s.carryOut p q (.take b bs t)).map = t.map := by
  simp [State.carryOut, Verdict.effect]
@[simp] theorem State.carryOut_take_groups (s t : State) (p : Port) (q : Request) (b : Bool)
    (bs : List Byte) : (s.carryOut p q (.take b bs t)).groups = t.groups := by
  simp [State.carryOut, Verdict.effect]
@[simp] theorem State.carryOut_take_limitSets (s t : State) (p : Port) (q : Request) (b : Bool)
    (bs : List Byte) : (s.carryOut p q (.take b bs t)).limitSets = t.limitSets := by
  simp [State.carryOut, Verdict.effect]
@[simp] theorem State.carryOut_take_watchdog (s t : State) (p : Port) (q : Request) (b : Bool)
    (bs : List Byte) : (s.carryOut p q (.take b bs t)).watchdog = t.watchdog := by
  simp [State.carryOut, Verdict.effect]
@[simp] theorem State.carryOut_take_interlockOpen (s t : State) (p : Port) (q : Request) (b : Bool)
    (bs : List Byte) : (s.carryOut p q (.take b bs t)).interlockOpen = t.interlockOpen := by
  simp [State.carryOut, Verdict.effect]
@[simp] theorem State.carryOut_take_alertMask (s t : State) (p : Port) (q : Request) (b : Bool)
    (bs : List Byte) : (s.carryOut p q (.take b bs t)).alertMask = t.alertMask := by
  simp [State.carryOut, Verdict.effect]
@[simp] theorem State.carryOut_take_faultLine (s t : State) (p : Port) (q : Request) (b : Bool)
    (bs : List Byte) : (s.carryOut p q (.take b bs t)).faultLine = t.faultLine := by
  simp [State.carryOut, Verdict.effect]
@[simp] theorem State.carryOut_take_alertLine (s t : State) (p : Port) (q : Request) (b : Bool)
    (bs : List Byte) : (s.carryOut p q (.take b bs t)).alertLine = t.alertLine := by
  simp [State.carryOut, Verdict.effect]
@[simp] theorem State.carryOut_take_preferred (s t : State) (p : Port) (q : Request) (b : Bool)
    (bs : List Byte) : (s.carryOut p q (.take b bs t)).preferred = t.preferred := by
  simp [State.carryOut, Verdict.effect]
@[simp] theorem State.carryOut_take_resetInFlight (s t : State) (p : Port) (q : Request) (b : Bool)
    (bs : List Byte) : (s.carryOut p q (.take b bs t)).resetInFlight = t.resetInFlight := by
  simp [State.carryOut, Verdict.effect]
@[simp] theorem State.carryOut_take_servo (s t : State) (p : Port) (q : Request) (b : Bool)
    (bs : List Byte) : (s.carryOut p q (.take b bs t)).servo = t.servo := by
  simp [State.carryOut, Verdict.effect]
@[simp] theorem State.carryOut_take_servoSent (s t : State) (p : Port) (q : Request) (b : Bool)
    (bs : List Byte) : (s.carryOut p q (.take b bs t)).servoSent = t.servoSent := by
  simp [State.carryOut, Verdict.effect]
@[simp] theorem State.carryOut_take_freeCount (s t : State) (p : Port) (q : Request) (b : Bool)
    (bs : List Byte) : (s.carryOut p q (.take b bs t)).freeCount = t.freeCount := by
  simp [State.carryOut, Verdict.effect]
@[simp] theorem State.carryOut_take_pending (s t : State) (p : Port) (q : Request) (b : Bool)
    (bs : List Byte) : (s.carryOut p q (.take b bs t)).pending = t.pending := by
  simp [State.carryOut, Verdict.effect]

@[simp] theorem State.carryOut_take_group (s t : State) (p : Port) (q : Request) (b : Bool) (bs : List Byte)
    (g : GroupIx) : (s.carryOut p q (.take b bs t)).group g = t.group g := by simp [State.group]

end Sys2Proof.Machine
end

