-- ==== Sys2Proof/Laws/Requests.lean ====
section
/-! SUPPORT. What the executor's take of a request does, said once (R158, R163, R164), and the readings of
operands that are bytes of an index. -/

namespace Sys2Proof.Machine

/-! ## The take -/

/-- The executor's next request, of the row's kind and of the right length: carried out as it is judged. -/
theorem takeRequest_taken {k : ReqKind} {s : State} {p : Port} {q : Request}
    (judge : Port → Request → State → Verdict) (hn : s.nextRequest = some (p, q)) (hk : q.kind = some k)
    (hl : q.operands.length = k.length) :
    takeRequest k judge s = .next (s.carryOut p q (judge p q (s.dequeue p))) := by
  simp [takeRequest, hn, hk, judgeLength, hl]

/-- A wrong operand length is refused BAD_LENGTH (R159). -/
theorem takeRequest_badLength {k : ReqKind} {s : State} {p : Port} {q : Request}
    (judge : Port → Request → State → Verdict) (hn : s.nextRequest = some (p, q)) (hk : q.kind = some k)
    (hl : q.operands.length ≠ k.length) :
    takeRequest k judge s = .next (s.carryOut p q (.refuse .badLength)) := by
  simp [takeRequest, hn, hk, judgeLength, hl]

/-- Where the executor's next take is of another kind, the row does nothing. -/
theorem takeRequest_other {k : ReqKind} {s : State} {p : Port} {q : Request}
    (judge : Port → Request → State → Verdict) (hn : s.nextRequest = some (p, q)) (hk : q.kind ≠ some k) :
    takeRequest k judge s = .next s := by
  simp [takeRequest, hn, hk]

/-- Where the executor takes nothing, the row does nothing. -/
theorem takeRequest_none {k : ReqKind} {s : State} (judge : Port → Request → State → Verdict)
    (hn : s.nextRequest = none) : takeRequest k judge s = .next s := by
  simp [takeRequest, hn]

/-- The kind of the request the executor is asked. -/
theorem State.Asks.kind_eq {s : State} {p : Port} {q : Request} {c : ReqClass} {n : Nat} {ops : List Byte}
    (h : s.Asks p q c n ops) : q.kind = requestOf c n := by
  obtain ⟨-, rfl, rfl, -⟩ := h
  rfl

/-- A request of the row's kind and length that the executor takes next. -/
theorem takeRequest_asks {s : State} {p : Port} {q : Request} {c : ReqClass} {n : Nat} {ops : List Byte}
    {k : ReqKind} (h : s.Asks p q c n ops) (hk : requestOf c n = some k) (hl : ops.length = k.length)
    (judge : Port → Request → State → Verdict) :
    takeRequest k judge s = .next (s.carryOut p q (judge p q (s.dequeue p))) :=
  takeRequest_taken judge h.1 (h.kind_eq.trans hk) (by rw [h.2.2.2]; exact hl)

/-- The executor takes the head of a port's queue (R163). -/
theorem State.nextRequest_head {s : State} {p : Port} {q : Request} (h : s.nextRequest = some (p, q)) :
    (s.port p).requests.head? = some q ∧ s.nextPort = some p := by
  unfold State.nextRequest at h
  split at h
  · cases h
  · next r hr =>
    cases hh : (s.port r).requests.head? <;> simp_all

/-- The executor serves ready ports only, and none while a reset is in flight (R163, R169). -/
theorem State.ready_of_nextRequest {s : State} {p : Port} {q : Request}
    (h : s.nextRequest = some (p, q)) : s.ready p = true ∧ s.resetInFlight = false := by
  have hp := (State.nextRequest_head h).2
  unfold State.nextPort at hp
  split at hp
  · cases hp
  · next hr =>
    split at hp
    · simp_all
    · split at hp <;> simp_all

/-! ## Operands -/

@[simp] theorem byteAt_zero (b : Byte) (bs : List Byte) : byteAt (b :: bs) 0 = b := rfl

@[simp] theorem byteAt_succ (b : Byte) (bs : List Byte) (i : Nat) : byteAt (b :: bs) (i + 1) = byteAt bs i := by
  simp [byteAt]

/-- A byte that carries an index below a bound names it. -/
theorem indexOf_ofNat {n : Nat} (i : Fin n) (h : n ≤ 256) : indexOf n (BitVec.ofNat 8 i.val).toNat = some i := by
  have hlt : i.val < 256 := by omega
  simp [indexOf, Nat.mod_eq_of_lt hlt]

/-- A byte that carries a channel number names its group and lane (R70). -/
theorem channelOf_ofNat (g : GroupIx) (l : LaneIx) :
    channelOf (BitVec.ofNat 8 (6 * g.val + l.val)).toNat = some (g, l) := by
  have h : 6 * g.val + l.val < 24 := by omega
  have hm : (6 * g.val + l.val) % 256 = 6 * g.val + l.val := by omega
  have hd : (6 * g.val + l.val) / 6 = g.val := by omega
  have hr : (6 * g.val + l.val) % 6 = l.val := by omega
  simp [channelOf, hm, h, hd, hr]

@[simp] theorem portOf_portCode (p : Port) : portOf (portCode p) = some p := by cases p <;> rfl

end Sys2Proof.Machine
end

