-- ==== Sys2Proof/Laws/Ports.lean ====
section
/-! SUPPORT. The upstream transmitter and its queues (R164, R165, R180, R181): what a choice can do, said
once, and what a request carried out leaves on each port. -/

namespace Sys2Proof.Machine

/-! ## The transmitter's choice -/

theorem PortState.choose_busy {p : PortState} {f : Sending} (h : p.sending = some f) : p.choose = p := by
  simp [PortState.choose, h]

theorem PortState.choose_response {p : PortState} {r : QResponse} {rest : List QResponse}
    (h : p.sending = none) (hr : p.responses = r :: rest) :
    p.choose = { p with sending := some { frame := r.frame, source := .response, landing := r.landing } } := by
  simp [PortState.choose, h, hr]

theorem PortState.choose_echo {p : PortState} {e : UpFrame} {rest : List UpFrame} (h : p.sending = none)
    (hr : p.responses = []) (he : p.echoes = e :: rest) :
    p.choose = { p with sending := some { frame := e, source := .echo, landing := none } } := by
  simp [PortState.choose, h, hr, he]

theorem PortState.choose_slot {p : PortState} {g : GroupIx} {f : UpFrame} (h : p.sending = none)
    (hr : p.responses = []) (he : p.echoes = []) (hs : p.nextSlot = some (g, f)) :
    p.choose = { p with
      slots := p.slots.set g none, nextGroup := g + 1,
      sending := some { frame := f, source := .detached, landing := none } } := by
  simp [PortState.choose, h, hr, he, hs]

theorem PortState.choose_nothing {p : PortState} (h : p.sending = none) (hr : p.responses = [])
    (he : p.echoes = []) (hs : p.nextSlot = none) : p.choose = p := by
  simp [PortState.choose, h, hr, he, hs]

/-- A choice is one of the five. -/
theorem PortState.choose_cases (p : PortState) :
    p.choose = p
      ∨ (∃ r rest, p.responses = r :: rest ∧ p.choose =
          { p with sending := some { frame := r.frame, source := .response, landing := r.landing } })
      ∨ (∃ e rest, p.responses = [] ∧ p.echoes = e :: rest ∧ p.choose =
          { p with sending := some { frame := e, source := .echo, landing := none } })
      ∨ ∃ g f, p.responses = [] ∧ p.echoes = [] ∧ p.nextSlot = some (g, f) ∧ p.choose =
          { p with
            slots := p.slots.set g none, nextGroup := g + 1,
            sending := some { frame := f, source := .detached, landing := none } } := by
  by_cases h : p.sending = none
  · have hr : p.responses = [] ∨ ∃ r rest, p.responses = r :: rest := by
      cases p.responses <;> simp
    have he : p.echoes = [] ∨ ∃ e rest, p.echoes = e :: rest := by
      cases p.echoes <;> simp
    have hs : p.nextSlot = none ∨ ∃ g f, p.nextSlot = some (g, f) := by
      cases p.nextSlot <;> simp [Prod.ext_iff]
    rcases hr with hr | ⟨r, rest, hr⟩
    · rcases he with he | ⟨e, rest, he⟩
      · rcases hs with hs | ⟨g, f, hs⟩
        · exact .inl (choose_nothing h hr he hs)
        · exact .inr (.inr (.inr ⟨g, f, hr, he, hs, choose_slot h hr he hs⟩))
      · exact .inr (.inr (.inl ⟨e, rest, hr, he, choose_echo h hr he⟩))
    · exact .inr (.inl ⟨r, rest, hr, choose_response h hr⟩)
  · obtain ⟨f, hf⟩ := Option.ne_none_iff_exists'.mp h
    exact .inl (choose_busy hf)

@[simp] theorem PortState.choose_policy (p : PortState) : p.choose.policy = p.policy := by
  rcases p.choose_cases with h | ⟨r, rest, -, h⟩ | ⟨e, rest, -, -, h⟩ | ⟨g, f, -, -, -, h⟩ <;> rw [h]

@[simp] theorem PortState.choose_requests (p : PortState) : p.choose.requests = p.requests := by
  rcases p.choose_cases with h | ⟨r, rest, -, h⟩ | ⟨e, rest, -, -, h⟩ | ⟨g, f, -, -, -, h⟩ <;> rw [h]

@[simp] theorem PortState.choose_responses (p : PortState) : p.choose.responses = p.responses := by
  rcases p.choose_cases with h | ⟨r, rest, -, h⟩ | ⟨e, rest, -, -, h⟩ | ⟨g, f, -, -, -, h⟩ <;> rw [h]

@[simp] theorem PortState.choose_echoes (p : PortState) : p.choose.echoes = p.echoes := by
  rcases p.choose_cases with h | ⟨r, rest, -, h⟩ | ⟨e, rest, -, -, h⟩ | ⟨g, f, -, -, -, h⟩ <;> rw [h]

@[simp] theorem PortState.choose_actions (p : PortState) : p.choose.actions = p.actions := by
  rcases p.choose_cases with h | ⟨r, rest, -, h⟩ | ⟨e, rest, -, -, h⟩ | ⟨g, f, -, -, -, h⟩ <;> rw [h]

@[simp] theorem PortState.choose_ctr (p : PortState) : p.choose.ctr = p.ctr := by
  rcases p.choose_cases with h | ⟨r, rest, -, h⟩ | ⟨e, rest, -, -, h⟩ | ⟨g, f, -, -, -, h⟩ <;> rw [h]

@[simp] theorem PortState.choose_sent (p : PortState) : p.choose.sent = p.sent := by
  rcases p.choose_cases with h | ⟨r, rest, -, h⟩ | ⟨e, rest, -, -, h⟩ | ⟨g, f, -, -, -, h⟩ <;> rw [h]

/-- A choice made with a response or an echo at hand leaves the telemetry slots alone. -/
theorem PortState.choose_slots {p : PortState} (h : p.responses ≠ [] ∨ p.echoes ≠ []) :
    p.choose.slots = p.slots := by
  rcases p.choose_cases with hc | ⟨r, rest, -, hc⟩ | ⟨e, rest, -, -, hc⟩ | ⟨g, f, hr, he, -, hc⟩
  · rw [hc]
  · rw [hc]
  · rw [hc]
  · simp_all

/-- A choice made with a response or an echo at hand moves nothing but what the transmitter sends. -/
theorem PortState.choose_sends_only {p : PortState} (h : p.responses ≠ [] ∨ p.echoes ≠ []) :
    p.choose = { p with sending := p.choose.sending } := by
  rcases p.choose_cases with hc | ⟨r, rest, -, hc⟩ | ⟨e, rest, -, -, hc⟩ | ⟨g, f, hr, he, -, hc⟩
  · rw [hc]
  · rw [hc]
  · rw [hc]
  · simp_all

/-! ## Responses and echoes -/

/-- A response appended moves its queue and what the transmitter sends, and nothing else (R164, R181). -/
theorem PortState.pushResponse_frame (p : PortState) (r : QResponse) :
    p.pushResponse r = { p with
      responses := p.responses ++ [r], sending := (p.pushResponse r).sending } :=
  PortState.choose_sends_only (p := { p with responses := p.responses ++ [r] }) (.inl (by simp))

/-- An echo that finds room moves its queue and what the transmitter sends, and nothing else (R164, R181). -/
theorem PortState.pushEcho_frame {p : PortState} (e : UpFrame) (h : p.echoes.length < 4) :
    p.pushEcho e = { p with echoes := p.echoes ++ [e], sending := (p.pushEcho e).sending } := by
  have hp : p.pushEcho e = PortState.choose { p with echoes := p.echoes ++ [e] } := by
    simp [PortState.pushEcho, Config.portQueueCapacity, h]
  rw [hp]
  exact PortState.choose_sends_only (p := { p with echoes := p.echoes ++ [e] }) (.inr (by simp))

/-- An echo that finds no room is counted, and nothing else moves (R164). -/
theorem PortState.pushEcho_full {p : PortState} (e : UpFrame) (h : 4 ≤ p.echoes.length) :
    p.pushEcho e = { p with ctr := { p.ctr with echoDropped := satAdd p.ctr.echoDropped 1 } } := by
  simp [PortState.pushEcho, Config.portQueueCapacity, Nat.not_lt.mpr h, PortState.countEchoDropped]

/-- A response appended (R164): what stays, and the tail of its queue. -/
theorem PortState.pushResponse_spec (p : PortState) (r : QResponse) :
    (p.pushResponse r).responses = p.responses ++ [r] ∧ (p.pushResponse r).echoes = p.echoes
      ∧ (p.pushResponse r).requests = p.requests ∧ (p.pushResponse r).policy = p.policy
      ∧ (p.pushResponse r).actions = p.actions ∧ (p.pushResponse r).slots = p.slots
      ∧ (p.pushResponse r).ctr = p.ctr ∧ (p.pushResponse r).sent = p.sent := by
  refine ⟨?_, ?_, ?_, ?_, ?_, ?_, ?_, ?_⟩ <;>
    simp [PortState.pushResponse, PortState.choose_slots]

/-- An echo appended, or dropped and counted (R164): what stays, and the tail of its queue. -/
theorem PortState.pushEcho_spec (p : PortState) (e : UpFrame) :
    (p.pushEcho e).echoes = (if p.echoes.length < 4 then p.echoes ++ [e] else p.echoes)
      ∧ (p.pushEcho e).responses = p.responses ∧ (p.pushEcho e).requests = p.requests
      ∧ (p.pushEcho e).policy = p.policy ∧ (p.pushEcho e).actions = p.actions
      ∧ (p.pushEcho e).slots = p.slots ∧ (p.pushEcho e).sent = p.sent
      ∧ (p.pushEcho e).ctr = (if p.echoes.length < 4 then p.ctr
          else { p.ctr with echoDropped := satAdd p.ctr.echoDropped 1 }) := by
  by_cases h : p.echoes.length < 4 <;>
    simp [PortState.pushEcho, Config.portQueueCapacity, h, PortState.choose_slots]

/-! ## A request carried out, port by port -/

theorem State.port_respond (s : State) (p : Port) (q : Request) (v : Verdict) :
    (s.respond p q v).port p = (s.port p).pushResponse
      { frame := responseFrame s.straps q v.status v.payload, landing := landingOf q v } := by
  simp [State.respond]

theorem State.port_respond_other (s : State) (p : Port) (q : Request) (v : Verdict) :
    (s.respond p q v).port (otherPort p) = s.port (otherPort p) := by simp [State.respond]

theorem State.port_echo (s : State) (p : Port) (q : Request) (v : Verdict) :
    (s.echo p q v).port p = s.port p := by
  unfold State.echo
  split <;> simp

theorem State.port_echo_other (s : State) (p : Port) (q : Request) (v : Verdict) :
    (s.echo p q v).port (otherPort p) =
      if q.action = .executeEcho ∧ q.kind ≠ some .resetPart then
        (s.port (otherPort p)).pushEcho (echoFrame s.straps p q v.status)
      else s.port (otherPort p) := by
  unfold State.echo
  split <;> simp

/-- The arrival port after a request is carried out: the effect's port with the response at its tail. -/
theorem State.port_carryOut (s : State) (p : Port) (q : Request) (v : Verdict) :
    (s.carryOut p q v).port p = ((v.effect (s.dequeue p)).port p).pushResponse
      { frame := responseFrame (v.effect (s.dequeue p)).straps q v.status v.payload,
        landing := landingOf q v } := by
  rw [State.carryOut, State.port_echo, State.port_respond]

/-- The other port after a request is carried out: the effect's port, with the echo where there is one. -/
theorem State.port_carryOut_other (s : State) (p : Port) (q : Request) (v : Verdict) :
    (s.carryOut p q v).port (otherPort p) =
      if q.action = .executeEcho ∧ q.kind ≠ some .resetPart then
        ((v.effect (s.dequeue p)).port (otherPort p)).pushEcho
          (echoFrame (v.effect (s.dequeue p)).straps p q v.status)
      else (v.effect (s.dequeue p)).port (otherPort p) := by
  simp only [State.carryOut, State.port_echo_other, State.port_respond_other, State.respond_straps]

end Sys2Proof.Machine
end

