-- ==== Sys2Proof/Laws/Trips.lean ====
section
/-! SUPPORT. The trip unit (R139 to R148): what a trip never moves, what it latches and records, and how a
property kept by one trip is kept by a list of them. -/

namespace Sys2Proof.Machine

/-- What no trip moves in a channel. -/
abbrev Channel.SameRun (c d : Channel) : Prop :=
  d.profile = c.profile ∧ d.yPrev = c.yPrev ∧ d.d = c.d ∧ d.trim = c.trim ∧ d.slewFlag = c.slewFlag
    ∧ d.rangeFlag = c.rangeFlag ∧ d.persist = c.persist ∧ d.slewClamps = c.slewClamps
    ∧ d.rangeClamps = c.rangeClamps

/-- What no trip moves in a group. -/
abbrev Group.SameRun (x t : Group) : Prop :=
  t.bound = x.bound ∧ t.source = x.source ∧ t.expected = x.expected ∧ t.outSeq = x.outSeq
    ∧ t.level = x.level ∧ t.att = x.att ∧ t.streak = x.streak ∧ t.sinceFb = x.sinceFb
    ∧ t.telemCount = x.telemCount ∧ t.genDone = x.genDone ∧ t.cfg = x.cfg ∧ t.gen = x.gen
    ∧ t.genRun = x.genRun ∧ t.lastEcho = x.lastEcho ∧ t.tallies.enqueued = x.tallies.enqueued
    ∧ t.tallies.played = x.tallies.played ∧ t.tallies.skipped = x.tallies.skipped
    ∧ ∀ l : LaneIx, (x.chans.get l).SameRun (t.chans.get l)

theorem Group.SameRun.trans {x y z : Group} (h : x.SameRun y) (k : y.SameRun z) : x.SameRun z := by
  obtain ⟨h1, h2, h3, h4, h5, h6, h7, h8, h9, h10, h11, h12, h13, h14, h15, h16, h17, hc⟩ := h
  obtain ⟨k1, k2, k3, k4, k5, k6, k7, k8, k9, k10, k11, k12, k13, k14, k15, k16, k17, kc⟩ := k
  refine ⟨k1.trans h1, k2.trans h2, k3.trans h3, k4.trans h4, k5.trans h5, k6.trans h6, k7.trans h7,
    k8.trans h8, k9.trans h9, k10.trans h10, k11.trans h11, k12.trans h12, k13.trans h13, k14.trans h14,
    k15.trans h15, k16.trans h16, k17.trans h17, fun l => ?_⟩
  obtain ⟨a1, a2, a3, a4, a5, a6, a7, a8, a9⟩ := hc l
  obtain ⟨b1, b2, b3, b4, b5, b6, b7, b8, b9⟩ := kc l
  exact ⟨b1.trans a1, b2.trans a2, b3.trans a3, b4.trans a4, b5.trans a5, b6.trans a6, b7.trans a7,
    b8.trans a8, b9.trans a9⟩

theorem Group.SameRun.refl (x : Group) : x.SameRun x :=
  ⟨rfl, rfl, rfl, rfl, rfl, rfl, rfl, rfl, rfl, rfl, rfl, rfl, rfl, rfl, rfl, rfl, rfl,
    fun _ => ⟨rfl, rfl, rfl, rfl, rfl, rfl, rfl, rfl, rfl⟩⟩

/-! ## The entries a trip can make -/

theorem Group.enterParking_sameRun (x : Group) : x.SameRun x.enterParking := by
  simp [Group.SameRun, Channel.SameRun]

theorem Group.enterHeld_sameRun (x : Group) : x.SameRun x.enterHeld := by
  simp [Group.SameRun, Channel.SameRun]

theorem Group.enterFaulted_sameRun (x : Group) : x.SameRun x.enterFaulted := by
  simp [Group.SameRun, Channel.SameRun]

theorem Group.enterRetryWait_sameRun (x : Group) : x.SameRun x.enterRetryWait := by
  simp [Group.SameRun, Channel.SameRun]

theorem Group.enterTarget_sameRun {x : Group} (h : x.target ≠ some .idle) : x.SameRun x.enterTarget := by
  rcases ht : x.target with _ | t
  · simpa [Group.enterTarget, ht] using Group.SameRun.refl x
  · cases t with
    | idle => exact absurd ht h
    | retryWait => simpa only [Group.enterTarget, ht] using x.enterRetryWait_sameRun
    | faulted => simpa only [Group.enterTarget, ht] using x.enterFaulted_sameRun

theorem Group.actBy_sameRun {x : Group} (a : Option Action) (h : x.target ≠ some .idle) :
    x.SameRun (x.actBy a) := by
  unfold Group.actBy
  split <;>
    first
      | exact enterTarget_sameRun h
      | exact enterParking_sameRun x
      | exact enterHeld_sameRun x
      | exact Group.SameRun.refl x

/-- A retryable trip's action does nothing in RETRY_WAIT (R144). -/
theorem Group.applyAction_retryWait {x : Group} (a : Option Action) (h : x.state = .retryWait) :
    x.applyAction a true = x := by
  simp [Group.applyAction, h]

theorem Group.applyAction_sameRun {x : Group} (a : Option Action) (r : Bool) (h : x.target ≠ some .idle) :
    x.SameRun (x.applyAction a r) := by
  have hset : x.SameRun { x with action := a } := Group.SameRun.refl x
  unfold Group.applyAction
  split
  · exact Group.SameRun.refl x
  · by_cases hs : strength x.action < strength a
    · simp only [hs, decide_true, if_true]
      split
      · exact hset.trans (Group.enterFaulted_sameRun _)
      · exact hset.trans (Group.actBy_sameRun a h)
    · simp only [hs, decide_false, Bool.false_eq_true, if_false]
      split
      · exact Group.enterFaulted_sameRun x
      · exact Group.SameRun.refl x

/-! ## A trip -/

theorem targetAfter_ne_idle (old : Option EndTarget) (r : Bool) : targetAfter old r ≠ .idle := by
  rcases old with _ | t
  · cases r <;> decide
  · cases t <;> cases r <;> decide

/-- The class a kind has after a latch: the joined class for the kind itself, the old one elsewhere (R140). -/
theorem Group.classOf_latch (x : Group) (k j : Kind) (c : FaultClass) :
    (x.latch k c).classOf j = if k = j then joinClass (x.classOf k) c else x.classOf j := by
  by_cases h : k = j
  · subst h
    simp [Group.classOf, Group.latch]
  · have hx : k.ix ≠ j.ix := by
      revert h
      cases k <;> cases j <;> decide
    simp [Group.classOf, Group.latch, h, hx]

/-- An action class joins to ACTION, whatever the old class (R140). -/
@[simp] theorem joinClass_action (old : Option FaultClass) : joinClass old .action = some .action := by
  rcases old with _ | c
  · rfl
  · cases c <;> rfl

theorem Group.actionTrip_sameRun (x : Group) (ev : MonEvent) : x.SameRun (x.actionTrip ev) := by
  have h1 : x.SameRun (x.recordTrip ev (x.retryable ev.mode)) := Group.SameRun.refl x
  have h2 : x.SameRun (x.recordTrip ev (x.retryable ev.mode)).openEpisode := by
    unfold Group.openEpisode
    split
    · exact h1
    · exact h1
  exact h2.trans (Group.applyAction_sameRun _ _ (by simp [targetAfter_ne_idle]))

/-- A trip is one of four things: nothing in IDLE and for OFF, a latched REPORT, or an action trip (R139,
R142, R143). -/
theorem Group.trip_cases (x : Group) (ev : MonEvent) :
    x.trip ev = x ∨ x.trip ev = x.latch ev.kind .report ∨ x.trip ev = x.actionTrip ev := by
  unfold Group.trip
  split
  · exact .inl rfl
  · split <;> simp

/-- A trip of a group outside IDLE, by its mode. -/
theorem Group.trip_active {x : Group} {ev : MonEvent} (h : x.state ≠ .idle) :
    (ev.mode = .report → x.trip ev = x.latch ev.kind .report)
      ∧ (ev.mode = .latch ∨ ev.mode = .retry → x.trip ev = x.actionTrip ev) := by
  constructor
  · intro hm
    simp [Group.trip, h, hm]
  · rintro (hm | hm) <;> simp [Group.trip, h, hm]

theorem Group.trip_idle {x : Group} (ev : MonEvent) (h : x.state = .idle) : x.trip ev = x := by
  simp [Group.trip, h]

/-- What no trip moves. -/
theorem Group.trip_sameRun (x : Group) (ev : MonEvent) : x.SameRun (x.trip ev) := by
  rcases x.trip_cases ev with h | h | h
  · rw [h]; exact Group.SameRun.refl x
  · rw [h]; exact Group.SameRun.refl x
  · rw [h]; exact x.actionTrip_sameRun ev

/-! ## Several trips -/

/-- What every trip keeps, a list of trips keeps (R116). -/
theorem Group.tripAll_keeps {law : Group → Prop} (hk : ∀ x ev, law x → law (x.trip ev)) (evs : List MonEvent)
    {x : Group} (hx : law x) : law (x.tripAll evs) := by
  induction evs generalizing x with
  | nil => exact hx
  | cons ev rest ih => exact ih (hk x ev hx)

@[simp] theorem Group.tripAll_nil (x : Group) : x.tripAll [] = x := rfl

@[simp] theorem Group.tripAll_cons (x : Group) (ev : MonEvent) (rest : List MonEvent) :
    x.tripAll (ev :: rest) = (x.trip ev).tripAll rest := rfl

/-- What no list of trips moves. -/
theorem Group.tripAll_sameRun (x : Group) (evs : List MonEvent) : x.SameRun (x.tripAll evs) :=
  Group.tripAll_keeps (law := x.SameRun) (fun y ev h => h.trans (y.trip_sameRun ev)) evs
    (Group.SameRun.refl x)

/-- A group in IDLE discards every event (R139). -/
theorem Group.tripAll_idle {x : Group} (h : x.state = .idle) (evs : List MonEvent) : x.tripAll evs = x := by
  induction evs with
  | nil => rfl
  | cons ev rest ih => rw [Group.tripAll_cons, Group.trip_idle ev h, ih]

end Sys2Proof.Machine
end

