-- ==== Sys2Proof/Laws/Playout.lean ====
section
/-! SUPPORT. A playout (R8), said once: what it leaves in each field of the device, in each group, and in each
port; and what a delivery of events and a feedback frame leave. -/

namespace Sys2Proof.Machine

/-! ## The telemetry record (R180, R181) -/

/-- A record placed in a slot moves the slots, the transmitter and TELEMETRY_REPLACED alone. -/
theorem PortState.placeRecord_frame (p : PortState) (g : GroupIx) (f : UpFrame) :
    p.placeRecord g f = { p with
      slots := (p.placeRecord g f).slots, sending := (p.placeRecord g f).sending,
      nextGroup := (p.placeRecord g f).nextGroup,
      ctr := { p.ctr with telemetryReplaced :=
        if (p.slots.get g).isSome then satAdd p.ctr.telemetryReplaced 1 else p.ctr.telemetryReplaced } } := by
  have hc : ∀ x : PortState, x.choose = { x with
      slots := x.choose.slots, sending := x.choose.sending, nextGroup := x.choose.nextGroup } := by
    intro x
    rcases x.choose_cases with h | ⟨r, rest, -, h⟩ | ⟨e, rest, -, -, h⟩ | ⟨k, u, -, -, -, h⟩ <;> rw [h]
  unfold PortState.placeRecord
  by_cases hs : (p.slots.get g).isSome = true
  · simp only [hs, if_true]
    rw [hc]
    rfl
  · simp only [hs]
    rw [hc]
    rfl

/-! ## The playout -/

/-- What a playout leaves in the device: the queue of frames, the groups, the ports and the lines move. -/
theorem State.playout_frame (s : State) (g : GroupIx) :
    s.playout g = { s with
      servoSent := s.servoSent ++ [s.commandFrame g], groups := s.groups.set g (s.playedGroup g),
      portA := (s.playout g).portA, portB := (s.playout g).portB, faultLine := (s.playout g).faultLine,
      alertLine := (s.playout g).alertLine } := by
  unfold State.playout State.report State.modPort State.driveLines
  dsimp only
  split
  · cases (s.settledGroup g).cfg.telemPort <;> rfl
  · rfl

@[simp] theorem State.playout_servoSent (s : State) (g : GroupIx) :
    (s.playout g).servoSent = s.servoSent ++ [s.commandFrame g] := by rw [State.playout_frame]

@[simp] theorem State.playout_pending (s : State) (g : GroupIx) : (s.playout g).pending = s.pending := by
  rw [State.playout_frame]

@[simp] theorem State.playout_map (s : State) (g : GroupIx) : (s.playout g).map = s.map := by
  rw [State.playout_frame]

@[simp] theorem State.playout_limitSets (s : State) (g : GroupIx) : (s.playout g).limitSets = s.limitSets := by
  rw [State.playout_frame]

@[simp] theorem State.playout_watchdog (s : State) (g : GroupIx) : (s.playout g).watchdog = s.watchdog := by
  rw [State.playout_frame]

@[simp] theorem State.playout_groups (s : State) (g : GroupIx) :
    (s.playout g).groups = s.groups.set g (s.playedGroup g) := by rw [State.playout_frame]

/-- The group played out. -/
@[simp] theorem State.playout_group (s : State) (g : GroupIx) :
    (s.playout g).group g = s.playedGroup g := by
  simp [State.group]

/-- The other groups. -/
theorem State.playout_group_ne (s : State) {g h : GroupIx} (hne : h ≠ g) :
    (s.playout g).group h = s.group h := by
  simp [State.group, Tab.get_set_ne _ _ hne.symm]

/-- The lines stand as the groups ask (R155). -/
theorem State.playout_lines (s : State) (g : GroupIx) :
    (s.playout g).faultLine = faultOf (s.playout g).groups
      ∧ (s.playout g).alertLine = alertOf (s.playout g).groups s.alertMask := by
  rw [State.playout_groups]
  unfold State.playout State.report State.modPort
  dsimp only
  split
  · cases (s.settledGroup g).cfg.telemPort <;> exact ⟨rfl, rfl⟩
  · exact ⟨rfl, rfl⟩

/-- The port of the group's records, where one is due. -/
theorem State.playout_port_due (s : State) (g : GroupIx)
    (h : (s.group g).telemetryDue s.wdExpired s.interlockOpen = true) :
    (s.playout g).port (s.settledGroup g).cfg.telemPort =
      (s.port (s.settledGroup g).cfg.telemPort).placeRecord g (telemetryFrame s.straps g (s.settledGroup g)) := by
  unfold State.playout State.report State.modPort
  simp only [h, if_true]
  cases (s.settledGroup g).cfg.telemPort <;> rfl

/-- Every other port, and both where no record is due. -/
theorem State.playout_port_else (s : State) (g : GroupIx) (p : Port)
    (h : (s.group g).telemetryDue s.wdExpired s.interlockOpen = false
      ∨ p ≠ (s.settledGroup g).cfg.telemPort) :
    (s.playout g).port p = s.port p := by
  unfold State.playout State.report State.modPort
  dsimp only
  split
  · next hd =>
    rcases h with h | h
    · simp_all
    · cases ht : (s.settledGroup g).cfg.telemPort <;> cases p <;> simp_all <;> rfl
  · cases p <;> rfl

/-- The trips of a playout move nothing that the steps before them wrote in the run's own values. -/
theorem Group.played_sameRun (x : Group) (w i : Bool) : (x.settled w i).SameRun (x.played w i) :=
  Group.tripAll_sameRun _ _

/-- A playout with no monitor event ends as step 6 leaves it. -/
theorem Group.played_quiet {x : Group} (w i : Bool) (h : x.playoutEvents = []) :
    x.played w i = x.settled w i := by
  simp [Group.played, h]

/-! ## Deliveries and feedback -/

/-- A delivery moves the one group and the lines alone (R116, R155). -/
theorem State.deliver_frame (s : State) (g : GroupIx) (evs : List MonEvent) :
    s.deliver g evs = { s with
      groups := s.groups.set g ((s.group g).tripAll evs),
      faultLine := faultOf (s.groups.set g ((s.group g).tripAll evs)),
      alertLine := alertOf (s.groups.set g ((s.group g).tripAll evs)) s.alertMask } := rfl

@[simp] theorem State.group_deliver (s : State) (g : GroupIx) (evs : List MonEvent) :
    (s.deliver g evs).group g = (s.group g).tripAll evs := by
  simp [State.deliver_frame, State.group]

theorem State.group_deliver_ne (s : State) {g h : GroupIx} (evs : List MonEvent) (hne : h ≠ g) :
    (s.deliver g evs).group h = s.group h := by
  simp [State.deliver_frame, State.group, Tab.get_set_ne _ _ hne.symm]

/-- A feedback frame by its fate (R105). -/
theorem State.feedback_checkError {s : State} {bs : List Byte} (h : s.judgeFeedback bs = .checkError) :
    s.feedback bs = { s.countServoFrame with servo := { s.countServoFrame.servo with
      checkErrors := satAdd s.servo.checkErrors 1 } } := by
  simp [State.feedback, h, State.countServoFrame]

theorem State.feedback_malformed {s : State} {bs : List Byte} (h : s.judgeFeedback bs = .malformed) :
    s.feedback bs = { s.countServoFrame with servo := { s.countServoFrame.servo with
      malformed := satAdd s.servo.malformed 1 } } := by
  simp [State.feedback, h, State.countServoFrame]

theorem State.feedback_stale {s : State} {bs : List Byte} {g : GroupIx} (h : s.judgeFeedback bs = .stale g) :
    s.feedback bs = s.countServoFrame.modGroup g Group.countStaleFeedback := by
  simp [State.feedback, h]

theorem State.feedback_accepted {s : State} {bs : List Byte} {g : GroupIx}
    (h : s.judgeFeedback bs = .accepted g) :
    s.feedback bs = (s.countServoFrame.setGroup g (s.heard g bs)).deliver g (s.feedbackEvents g bs) := by
  simp [State.feedback, h]

/-- A row that names an event is its whole step, or nothing. -/
theorem whenArises_cases (b : Bool) (t s : State) :
    whenArises b t s = .next t ∧ b = true ∨ whenArises b t s = .next s ∧ b = false := by
  cases b <;> simp [whenArises]

end Sys2Proof.Machine
end

