-- ==== Sys2Proof/Laws/Ingress.lean ====
section
/-! SUPPORT. A downstream frame by the step that stops it (R30 to R35, R39, R160), what its classifier
leaves in the device, the completion of a sending (R181, R170), and a tick (R132). -/

namespace Sys2Proof.Machine

/-! ## Ingress, step by step -/

theorem State.ingress_checkError {s : State} {p : Port} {bs : List Byte} (h : crcOk bs = false) :
    s.ingress p bs = s.modPort p PortState.countCheckError := by
  simp [State.ingress, h]

theorem State.ingress_malformed {s : State} {p : Port} {bs : List Byte} (h : crcOk bs = true)
    (hm : frameMalformed bs = true) : s.ingress p bs = s.modPort p PortState.countMalformed := by
  simp [State.ingress, h, hm]

theorem State.ingress_request {s : State} {p : Port} {bs : List Byte} (h : crcOk bs = true)
    (hm : frameMalformed bs = false) (ht : 0xFF0 ≤ tagField bs) :
    s.ingress p bs = s.modPort p fun x => x.dispatch bs := by
  simp [State.ingress, h, hm, ht]

theorem State.ingress_stream {s : State} {p : Port} {bs : List Byte} (h : crcOk bs = true)
    (hm : frameMalformed bs = false) (ht : tagField bs < 0xFF0) : s.ingress p bs = s.streamFrame p bs := by
  simp [State.ingress, h, hm, Nat.not_le.mpr ht]

/-- A dispatched request moves the counters and the request queue of its port alone (R160). -/
theorem PortState.dispatch_frame (p : PortState) (bs : List Byte) :
    p.dispatch bs =
      { p with requests := (p.dispatch bs).requests, ctr := (p.dispatch bs).ctr } := by
  unfold PortState.dispatch
  split
  · rfl
  · split
    · rfl
    · split <;> rfl

/-- A looked-up entry matches (R39). -/
theorem State.lookup_matches {s : State} {tag : Nat} {p : Port} {i : MapIx} (h : s.lookup tag p = some i) :
    (s.map.get i).matchesFrame tag p = true := by
  simpa [State.lookup] using List.find?_some h

/-- Where no entry matches, none is found (R39). -/
theorem State.lookup_none {s : State} {tag : Nat} {p : Port}
    (h : ∀ i : MapIx, (s.map.get i).matchesFrame tag p = false) : s.lookup tag p = none := by
  simp [State.lookup, List.find?_eq_none, h]

/-- The one entry that matches is the one found (R39, R40). -/
theorem State.lookup_unique {s : State} {tag : Nat} {p : Port} {i : MapIx}
    (h : (s.map.get i).matchesFrame tag p = true)
    (hu : ∀ j : MapIx, (s.map.get j).matchesFrame tag p = true → j = i) : s.lookup tag p = some i := by
  rcases hl : s.lookup tag p with _ | j
  · have hn := List.find?_eq_none.mp hl i (by simp [mapIndices])
    exact absurd h hn
  · rw [hu j (State.lookup_matches hl)]

/-! ## The replay queue's arrivals -/

/-- What no arrival moves in a group. -/
abbrev Group.SameButQueue (x t : Group) : Prop :=
  t = { x with queue := t.queue, expected := t.expected, tallies := t.tallies, ctr := t.ctr }

theorem Group.insertFrame_frame (g : Group) (e : QEntry) : g.SameButQueue (g.insertFrame e) := by
  unfold Group.insertFrame
  by_cases h : 0 < g.room
  · rw [if_pos h]
    rfl
  · rw [if_neg h]

theorem Group.SameButQueue.trans {x y z : Group} (h : x.SameButQueue y) (k : y.SameButQueue z) :
    x.SameButQueue z := by
  unfold Group.SameButQueue at *
  rw [k, h]

/-- An arrival leaves every field of a group but its queue, its expected sequence, its tallies and its
counters (R55 to R59). -/
theorem Group.arrive_frame (g : Group) (seq : Seq) (slots : Tab 6 (Option Du)) :
    g.SameButQueue (g.arrive seq slots).1 := by
  have hx : ∀ x : Group, x.SameButQueue (x.expectAfter seq) := fun _ => rfl
  have hg : ∀ n : Nat, g.SameButQueue (g.countGap n) := fun _ => rfl
  have hf : ∀ (x : Group) (n : Nat), x.SameButQueue (x.insertFillers n) := fun _ _ => rfl
  have hb : ∀ x : Group, x.SameButQueue x.countBreak := fun _ => rfl
  unfold Group.arrive
  cases judgeArrival g.expected g.cfg.gapFill seq with
  | first => exact (g.insertFrame_frame _).trans (hx _)
  | inOrder => exact (g.insertFrame_frame _).trans (hx _)
  | shortGap n => exact (((hg n).trans (hf _ n)).trans (Group.insertFrame_frame _ _)).trans (hx _)
  | seqBreak n => exact (((hg n).trans (hb _)).trans (Group.insertFrame_frame _ _)).trans (hx _)
  | stale => rfl

/-! ## Sending and landing -/

theorem State.sendComplete_idle {s : State} {p : Port} (levels : Straps) (h : (s.port p).sending = none) :
    s.sendComplete p levels = s := by
  simp [State.sendComplete, h]

theorem State.sendComplete_next {s : State} {p : Port} {f : Sending} (levels : Straps)
    (h : (s.port p).sending = some f) (hl : f.landing = none) :
    s.sendComplete p levels = { s.modPort p (fun x => (x.finish f).choose) with
      pins := { s.pins with straps := levels } } := by
  unfold State.sendComplete State.modPort
  rw [h]
  simp only [hl]
  cases p <;> rfl

theorem State.sendComplete_land {s : State} {p : Port} {f : Sending} {k : ResetKind} (levels : Straps)
    (h : (s.port p).sending = some f) (hl : f.landing = some k) :
    s.sendComplete p levels =
      { s.modPort p (fun x => x.finish f) with pins := { s.pins with straps := levels } }.land k := by
  simp [State.sendComplete, h, hl]

/-! ## The watchdog's tick -/

/-- A tick expires the watchdog, lowers its count, or does nothing (R132). -/
theorem State.tick_cases (s : State) (u : TickUnit) :
    s.tick u = s.expireWatchdog ∧ s.watchdog.expiresAt u = true
      ∨ s.tick u = { s with watchdog := { s.watchdog with remaining := s.watchdog.remaining - 1 } }
        ∧ s.watchdog.state = .running ∧ s.watchdog.unit = u
      ∨ s.tick u = s ∧ ¬ (s.watchdog.state = .running ∧ s.watchdog.unit = u) := by
  unfold State.tick
  by_cases he : s.watchdog.expiresAt u = true
  · simp [he]
  · by_cases hr : s.watchdog.state = .running ∧ s.watchdog.unit = u
    · simp [he, hr]
    · simp [he, hr]

end Sys2Proof.Machine
end

