-- ==== Sys2Proof/WellFormed.lean ====
section
/-! DEFINITION. When a command is well formed. The operand types leave little to check: a group, a lane
and a port cannot be out of range, and any bytes may be delimited on a port or on the servo link. A
CHANNEL_MONITOR_TRIP names the feedback frame that trips the monitor, and only a frame that passes the
first three tests of R105 can do that. -/

namespace Sys2Proof

/-- Whether bytes are a feedback frame of the right check code, length and group (R106, R107). -/
def feedbackFrameOk (bs : List Byte) : Bool :=
  Machine.crcOk bs && decide (bs.length = Machine.feedbackLength) && (Machine.feedbackGroup bs).isSome

/-- Whether a command is well formed. -/
def Instr.wf : Instr → Bool
  | .powerOn _ => true
  | .downstreamFrame _ _ => true
  | .identify => true
  | .keepalive => true
  | .readStatus => true
  | .writeMapEntry => true
  | .readMapEntry => true
  | .clearMapEntry => true
  | .writePortPolicy => true
  | .readPortPolicy => true
  | .writeProfile => true
  | .readProfile => true
  | .writeLimitSet => true
  | .readLimitSet => true
  | .writeGroupConfig => true
  | .readGroupConfig => true
  | .setRate => true
  | .genConfig => true
  | .arm => true
  | .disarm => true
  | .start => true
  | .stop => true
  | .abort => true
  | .setLevel => true
  | .genStart => true
  | .readGroupStatus => true
  | .readFaults => true
  | .clearFaults => true
  | .setAlertMask => true
  | .setWatchdog => true
  | .forceWatchdog => true
  | .readPortStats => true
  | .readGroupStats => true
  | .readChannelStats => true
  | .readServoStats => true
  | .setClassAction => true
  | .readClassActions => true
  | .resetPart => true
  | .undefinedOpcodeRequest => true
  | .playout _ => true
  | .retryTimerExpiry _ => true
  | .burstCompletion _ => true
  | .starveEvent _ => true
  | .clampPersistEvent _ _ => true
  | .fbLossEvent _ => true
  | .telemetryRecord _ => true
  | .feedbackFrame _ => true
  | .channelMonitorTrip _ _ bytes => feedbackFrameOk bytes
  | .watchdogTick _ => true
  | .watchdogExpiry => true
  | .interlockOpening => true
  | .interlockClosing => true
  | .upstreamSendComplete _ _ => true

end Sys2Proof
end

