-- ==== Sys2Proof/Tests/Slice0.lean ====
section
/-! SUPPORT. Tests of the commands, each with its expected result read from the rule it names, and for every
statement with hypotheses a witness: a concrete state and operands that meet them, clause by clause, at the
ends of the ranges. -/

namespace Sys2Proof.Tests

open Sys2Proof.Machine

set_option Elab.async false

/-! ## Helpers -/

/-- The next state of an outcome. -/
def after (o : Host.Outcome State Fault Refusal) : State :=
  match o with
  | .next t => t
  | _ => State.reset

/-- A request of a class with an opcode and operands. -/
abbrev rq (c : ReqClass) (op : Nat) (ops : List Byte) : Request :=
  { cls := c, id := 7, opcode := BitVec.ofNat 8 op, operands := ops, action := .execute }

/-- A state with one request waiting on port A. -/
def asking (s : State) (q : Request) : State := { s with portA := { s.portA with requests := [q] } }

/-- The request waits on port A and is the executor's next take. -/
abbrev Poses (s : State) (c : ReqClass) (op : Nat) (ops : List Byte) : Prop :=
  (asking s (rq c op ops)).Asks .a (rq c op ops) c op ops

/-- What a take answers on port A: the status and the payload. -/
def answer (i : Instr) (s : State) (q : Request) : List (Byte × List Byte) :=
  (after (exec i (asking s q))).portA.responses.map fun r => (r.frame.status, r.frame.payload)

/-- The reset state with group 0 replaced. -/
def withGroup (x : Group) : State := State.reset.setGroup 0 x

/-- Group 0 after a command, from a state where it stands as given. -/
def groupAfter (i : Instr) (x : Group) : Group := (after (exec i (withGroup x))).group 0

/-- Group 0 after a request. -/
def groupAsked (i : Instr) (x : Group) (c : ReqClass) (op : Nat) (ops : List Byte) : Group :=
  (after (exec i (asking (withGroup x) (rq c op ops)))).group 0

/-- A running group with one entry queued. -/
def runGroup : Group :=
  { defaultGroup with
    state := .run, bound := some 0, expected := some 5, env := 4096, outSeq := 9,
    queue := [frameEntry 4 (Tab.fill (some 100))],
    tallies := { enqueued := 3, played := 1, skipped := 1, flushed := 0 } }

/-- A group held by a retryable trip of its own. -/
def heldGroup : Group :=
  { defaultGroup with
    state := .held, action := some .hold, target := some .retryWait,
    latched := (Tab.fill none).set Kind.fbLoss.ix (some .action) }

/-- A group faulted by starvation. -/
def faultedGroup : Group :=
  { defaultGroup with
    state := .faulted, bound := some 1, action := some .park, target := some .faulted,
    latched := (Tab.fill none).set Kind.starve.ix (some .action),
    firstTrip := some { kind := .starve, lane := none, outSeq := 3, observed := none, mode := .latch } }

/-- A running group whose source is the generator. -/
def generatorGroup : Group :=
  { runGroup with source := .generator, queue := [], gen := { defaultGenConfig with level := 500 } }

/-- A group waiting to retry. -/
def waitingGroup : Group :=
  { defaultGroup with state := .retryWait, target := some .retryWait, action := some .park, retryCount := 1,
                      retryTimer := 2 }

/-- A group in a state, with all else as after reset. -/
def inState (st : GState) : Group := { defaultGroup with state := st }

/-- The strap levels of a rig with both defaults. -/
def bothDefaults : Pins :=
  { straps := { unitId := 1, defmap := true, wddef := true }, interlockOpen := false }

/-- A frame on port A's wire. -/
def telemetrySample : UpFrame :=
  { tag := 0xFFE, kind := .telemetry, unit := 1, origin := .a, ident := 2, status := 3, payload := [1, 2] }

/-- A busy part: one group running, one held, one faulted, one idle, a request waiting and a frame being sent. -/
def busy : State :=
  { State.fresh bothDefaults.straps bothDefaults with
    groups := Tab.of fun i =>
      if i.val = 0 then runGroup else if i.val = 1 then heldGroup else if i.val = 2 then
        { faultedGroup with bound := some 2 } else defaultGroup
    faultLine := true, alertLine := true
    portA := { defaultPort with
      requests := [rq .supervision 2 []],
      sending := some { frame := telemetrySample, source := .detached, landing := none } }
    pending := [.playout 0, .keepalive] }

/-! ## Well-formed commands -/

/-- A feedback frame of group 0, with echo 9 and every value 0. -/
def goodFeedback : List Byte := sealFrame ([0, 0, 0, 9] ++ List.replicate 36 0)

theorem test_wf_accepts_a_feedback_frame :
    (Instr.channelMonitorTrip 5 .error goodFeedback).wf = true := by decide +kernel

theorem test_wf_refuses_a_short_frame :
    (Instr.channelMonitorTrip 0 .force (sealFrame (List.replicate 39 0))).wf = false := by decide +kernel

theorem test_wf_refuses_a_wrong_check_code :
    (Instr.channelMonitorTrip 0 .force (List.replicate 42 0)).wf = false := by decide +kernel

theorem test_wf_refuses_a_group_above_3 :
    (Instr.channelMonitorTrip 0 .force (sealFrame (4 :: List.replicate 39 0))).wf = false := by decide +kernel

/-! ## Bytes and words: no row of the table has bits -/

theorem test_no_word_spells_a_command : decodeTableWord 8 0x12 = none ∧ decodeTableWord 32 0 = none := by
  decide

theorem test_withFetchWord_leaves_the_state :
    (State.reset.withFetchWord 16 0xFFFF) = State.reset := by rfl

/-- The two values R183 works out. -/
theorem test_check_code_values :
    crc [0x31, 0x32, 0x33, 0x34, 0x35, 0x36, 0x37, 0x38, 0x39] = 0x29B1 ∧ crc [0] = 0xE1F0 := by
  decide +kernel

/-! ## Commands from outside -/

/-- R131, R167. -/
theorem test_powerOn_arms_the_watchdog :
    (after (exec (.powerOn bothDefaults) busy)).watchdog
      = { period := 50, unit := .ms10, remaining := 50, state := .running } := by decide +kernel

/-- R38, R167: DEFMAP's entry 3 carries tag 0x103 to group 3. -/
theorem test_powerOn_fills_the_map :
    ((after (exec (.powerOn bothDefaults) busy)).map.get 3).tag = 0x103
      ∧ ((after (exec (.powerOn bothDefaults) busy)).map.get 4).valid = false := by decide +kernel

/-- R31: a frame of fewer than 3 bytes is a check error. -/
theorem test_downstreamFrame_short :
    (after (exec (.downstreamFrame .b [1, 2]) State.reset)).portB.ctr.checkErrors = 1 := by decide +kernel

/-- R43, R54, R55: the first frame of a bound stream joins the queue. -/
theorem test_downstreamFrame_queued :
    ((after (exec (.downstreamFrame .a (sealFrame [1, 0, 0, 7, 1, 0, 0, 100]))
      (busy.setGroup 0 { inState .armed with bound := some 0 }))).group 0).expected = some 8 := by
  decide +kernel

/-- R105: a frame with a wrong check code. -/
theorem test_feedbackFrame_check_error :
    (after (exec (.feedbackFrame [1, 2, 3]) State.reset)).servo.checkErrors = 1 := by decide +kernel

/-- R109, R110: the echo of the latest output is accepted. -/
theorem test_feedbackFrame_accepted :
    (groupAfter (.feedbackFrame goodFeedback) { runGroup with sinceFb := 4 }).lastEcho = some 9
      ∧ (groupAfter (.feedbackFrame goodFeedback) { runGroup with sinceFb := 4 }).sinceFb = 0 := by
  decide +kernel

/-- R122: no monitor trips with every monitor OFF, so nothing happens. -/
theorem test_channelMonitorTrip_off :
    (groupAfter (.channelMonitorTrip 0 .error goodFeedback) runGroup).lastEcho = none := by decide +kernel

/-- R132: the tick of the watchdog's unit. -/
theorem test_watchdogTick_counts :
    (after (exec (.watchdogTick .ms10) busy)).watchdog.remaining = 49
      ∧ (after (exec (.watchdogTick .s1) busy)).watchdog.remaining = 50 := by decide +kernel

/-- R129, R132: an expiry trips the running group, LATCH with PARK. -/
theorem test_watchdogExpiry_trips :
    ((after (exec .watchdogExpiry { busy with watchdog := { busy.watchdog with remaining := 1 } })).group 0).state
      = .parking := by decide +kernel

/-- R148: an opening faults the running group and leaves the idle one. -/
theorem test_interlockOpening_faults :
    ((after (exec .interlockOpening busy)).group 0).state = .faulted
      ∧ ((after (exec .interlockOpening busy)).group 3).state = .idle := by decide +kernel

/-- R137. -/
theorem test_interlockClosing :
    (after (exec .interlockClosing { State.reset with interlockOpen := true })).interlockOpen = false := by
  decide +kernel

/-- R181: a completed record leaves the transmitter free. -/
theorem test_upstreamSendComplete_frees :
    (after (exec (.upstreamSendComplete .a bothDefaults.straps) busy)).portA.sending = none
      ∧ (after (exec (.upstreamSendComplete .a bothDefaults.straps) busy)).portA.sent.length = 1 := by
  decide +kernel

/-! ## Playouts -/

/-- R3, R62: the head of the queue is played. -/
theorem test_playout_plays_the_head :
    (groupAfter (.playout 0) runGroup).tallies.played = 2 ∧ (groupAfter (.playout 0) runGroup).outSeq = 10 := by
  decide +kernel

/-- R74 to R80: at full envelope the sample passes through the default profile. -/
theorem test_playout_outputs_the_sample :
    ((groupAfter (.playout 0) runGroup).chans.get 5).yPrev = 100 := by decide +kernel

/-- R149, R150: the timer's expiry with nothing present resumes the run. -/
theorem test_retryTimerExpiry_resumes :
    (groupAfter (.retryTimerExpiry 0) { waitingGroup with retryTimer := 1 }).state = .fadeIn := by
  decide +kernel

/-- R149: the timer not at its end, the event does not come about. -/
theorem test_retryTimerExpiry_waits :
    (groupAfter (.retryTimerExpiry 0) waitingGroup).outSeq = 0 := by decide +kernel

/-- R97: the count reaches 1 of 1. -/
theorem test_burstCompletion :
    (groupAfter (.burstCompletion 0)
      { generatorGroup with gen := { defaultGenConfig with count := some 1 } }).genDone = true := by
  decide +kernel

/-- R64: the eighth underrun in a row starves. -/
theorem test_starveEvent :
    (groupAfter (.starveEvent 0) { runGroup with queue := [], streak := 7 }).classOf .starve = some .action := by
  decide +kernel

/-- R85: a lane driven past its slew limit for the second playout of two. -/
theorem test_clampPersistEvent :
    (groupAfter (.clampPersistEvent 0 0) { runGroup with
      cfg := { defaultGroupConfig with clampLimit := 2 }
      chans := Tab.fill { defaultChannel with
        persist := 1, profile := { defaultProfile with slew := 1 } } }).classOf .clampPersist
      = some .report := by decide +kernel

/-- R127: the seventeenth playout without feedback at the limit 16. -/
theorem test_fbLossEvent :
    (groupAfter (.fbLossEvent 0) { runGroup with sinceFb := 16 }).classOf .fbLoss = some .action := by
  decide +kernel

/-- R179, R181: the record is produced, and a free transmitter sends it. -/
theorem test_telemetryRecord :
    ((after (exec (.telemetryRecord 0) (withGroup { runGroup with
      cfg := { defaultGroupConfig with telemK := 1 } }))).portA.sending.map fun f => f.frame.tag)
      = some 0xFFE := by decide +kernel

/-! ## Requests -/

/-- R172. -/
theorem test_identify : answer .identify State.reset (rq .supervision 1 [])
    = [(0x00, [0x0D, 0x24, 0x01, 0, 0, 0])] := by decide +kernel

/-- R133. -/
theorem test_keepalive_rearms :
    (after (exec .keepalive { busy with
      watchdog := { busy.watchdog with remaining := 0, state := .expired } })).watchdog.state = .running := by
  decide +kernel

/-- R172: 1024 Hz is 0x0400, the line closed, the watchdog disabled, all groups IDLE. -/
theorem test_readStatus : answer .readStatus State.reset (rq .supervision 3 [])
    = [(0x00, [4, 0, 0, 0, 0, 0, 0, 0, 0, 0, 0, 0, 0])] := by decide +kernel

/-- R40. -/
theorem test_writeMapEntry :
    ((after (exec .writeMapEntry (asking State.reset (rq .map 1 [31, 0x0F, 0xEF, 1, 3, 0x20, 2])))).map.get 31)
      = { valid := true, tag := 0xFEF, role := .trim, group := 3, laneMask := 0x20, portMask := 2,
          lastTrim := none } := by decide +kernel

/-- R40: a tag held on a shared port. -/
theorem test_writeMapEntry_conflict :
    answer .writeMapEntry busy (rq .map 1 [9, 0x01, 0x00, 0, 0, 1, 1]) = [(0x22, [])] := by decide +kernel

/-- R171: an unbound, cleared entry. -/
theorem test_readMapEntry : answer .readMapEntry State.reset (rq .map 2 [5])
    = [(0x00, [5, 0, 0, 0, 0, 0, 0, 0, 0, 0, 0, 0xFF])] := by decide +kernel

/-- R41: entry 0 is bound to group 0, entry 3 to none. -/
theorem test_clearMapEntry :
    answer .clearMapEntry busy (rq .map 3 [0]) = [(0x21, [])]
      ∧ answer .clearMapEntry busy (rq .map 3 [3]) = [(0x00, [])] := by decide +kernel

/-- R36. -/
theorem test_writePortPolicy :
    (after (exec .writePortPolicy (asking State.reset (rq .map 4 [1, 2, 0x0F, 0xEF])))).portB.policy
      = { policy := .untaggedOnly, defaultTag := 0xFEF } := by decide +kernel

/-- R36, R171. -/
theorem test_readPortPolicy : answer .readPortPolicy State.reset (rq .map 5 [1])
    = [(0x00, [1, 0, 0, 0])] := by decide +kernel

/-- R71: a Pk above Lmax is stored as Lmax, and the answer is ADJUSTED. -/
theorem test_writeProfile_adjusts :
    answer .writeProfile State.reset
        (rq .setup 1 [0, 0x40, 0, 0, 0, 0, 0, 0, 0, 0, 0, 50, 0, 60, 0, 1]) = [(0x01, [])]
      ∧ (((groupAsked .writeProfile defaultGroup .setup 1
        [0, 0x40, 0, 0, 0, 0, 0, 0, 0, 0, 0, 50, 0, 60, 0, 1]).chans.get 0).yPrev = 50) := by decide +kernel

/-- R70, R171: channel 23's default profile. -/
theorem test_readProfile : answer .readProfile State.reset (rq .setup 2 [23])
    = [(0x00, [23, 0x40, 0, 0, 0, 0, 0, 0, 0x80, 0, 0x7F, 0xFF, 0, 0, 0, 1])] := by decide +kernel

/-- R118: RETRY with HOLD is stored as RETRY with PARK. -/
theorem test_writeLimitSet :
    ((after (exec .writeLimitSet (asking State.reset
      (rq .setup 3 [2, 0, 0, 0, 9, 1, 1, 1, 0, 5, 1, 3, 0, 0, 5, 1, 3, 0])))).limitSets.get 2).position
      = { deglitch := 1, mode := .retry, action := .park } := by decide +kernel

/-- R117, R171. -/
theorem test_readLimitSet : answer .readLimitSet State.reset (rq .setup 4 [15])
    = [(0x00, [15, 0x80, 0, 0x7F, 0xFF, 1, 3, 0, 0x7F, 0xFF, 1, 3, 0, 0x7F, 0xFF, 1, 3, 0])] := by
  decide +kernel

/-- R29: a running group refuses. -/
theorem test_writeGroupConfig_running :
    answer .writeGroupConfig busy (rq .setup 5 (0 :: List.replicate 32 0)) = [(0x20, [])] := by decide +kernel

/-- R29: every 0 below its range becomes the nearer bound. -/
theorem test_writeGroupConfig_adjusts :
    (groupAsked .writeGroupConfig defaultGroup .setup 5 (0 :: List.replicate 32 0)).cfg.fadeStep = 1
      ∧ answer .writeGroupConfig State.reset (rq .setup 5 (0 :: List.replicate 32 0)) = [(0x01, [])] := by
  decide +kernel

/-- R28, R171: the defaults as operands. -/
theorem test_readGroupConfig : answer .readGroupConfig State.reset (rq .setup 6 [1])
    = [(0x00, [1, 0, 16, 0, 64, 16, 8, 2, 16, 0, 8, 0, 3, 0, 0, 2, 0, 0, 0, 2, 0, 0, 0,
      0, 0, 0, 0, 0, 64, 4, 0, 0, 0])] := by decide +kernel

/-- R7. -/
theorem test_setRate :
    (after (exec .setRate (asking State.reset (rq .setup 7 [8, 0])))).rate = .hz2048
      ∧ answer .setRate busy (rq .setup 7 [8, 0]) = [(0x20, [])] := by decide +kernel

/-- R92: a seed of 0 and a level of -32768 are replaced. -/
theorem test_genConfig :
    answer .genConfig State.reset (rq .setup 8 [0, 2, 0x80, 0, 0, 1, 0, 0, 0, 0, 0, 0x3F])
      = [(0x01, [0, 2, 0x80, 0x01, 0, 2, 0xAC, 0xE1, 0, 0, 0, 0x3F])] := by decide +kernel

/-- R20. -/
theorem test_arm :
    (groupAsked .arm defaultGroup .run 1 [0, 255]).state = .armed
      ∧ answer .arm State.reset (rq .run 1 [0, 0]) = [(0x12, [])] := by decide +kernel

/-- R21. -/
theorem test_disarm :
    (groupAsked .disarm (inState .armed) .run 2 [0]).state = .idle
      ∧ answer .disarm State.reset (rq .run 2 [0]) = [(0x20, [])] := by decide +kernel

/-- R22: one entry against a prefill of 16. -/
theorem test_start_not_ready :
    answer .start (withGroup { runGroup with state := .armed }) (rq .run 3 [0]) = [(0x23, [])] := by
  decide +kernel

theorem test_start :
    (groupAsked .start { runGroup with
      state := .armed, cfg := { defaultGroupConfig with prefill := 1 } } .run 3 [0]).state = .fadeIn := by
  decide +kernel

/-- R24. -/
theorem test_stop :
    (groupAsked .stop runGroup .run 4 [0]).state = .fadeOut
      ∧ answer .stop State.reset (rq .run 4 [0]) = [(0x20, [])] := by decide +kernel

/-- R25, R18. -/
theorem test_abort :
    (groupAsked .abort { runGroup with env := 7 } .run 5 [0]).state = .parking
      ∧ (groupAsked .abort { runGroup with env := 7 } .run 5 [0]).env = 4096 := by decide +kernel

/-- R26. -/
theorem test_setLevel :
    (groupAsked .setLevel runGroup .run 6 [0, 0x10, 0x01]).level = 4096
      ∧ answer .setLevel busy (rq .run 6 [0, 0x10, 0x01]) = [(0x01, [])]
      ∧ answer .setLevel busy (rq .run 6 [0, 0x10, 0x00]) = [(0x00, [])] := by decide +kernel

/-- R23: the queue is flushed. -/
theorem test_genStart :
    (groupAsked .genStart { runGroup with state := .armed } .run 7 [0]).source = .generator
      ∧ (groupAsked .genStart { runGroup with state := .armed } .run 7 [0]).tallies.flushed = 1 := by
  decide +kernel

/-- R99, R173: 39 bytes, and the done flag is cleared. -/
theorem test_readGroupStatus :
    ((answer .readGroupStatus busy (rq .run 8 [0])).map fun r => r.2.length) = [39]
      ∧ (groupAsked .readGroupStatus { defaultGroup with genDone := true } .run 8 [0]).genDone = false := by
  decide +kernel

/-- R174: nothing latched. -/
theorem test_readFaults : answer .readFaults State.reset (rq .fault 1 [3])
    = [(0x00, [0, 0, 0, 0, 0, 0, 0, 0, 0, 0, 0, 0, 0, 0xFF, 0xFF, 0, 0, 0, 0, 0, 0])] := by decide +kernel

/-- R152, R153: a starved group has nothing present, and goes to IDLE. -/
theorem test_clearFaults :
    (groupAsked .clearFaults faultedGroup .fault 2 [255]).state = .idle
      ∧ (groupAsked .clearFaults heldGroup .fault 2 [0]).state = .parking := by decide +kernel

/-- R156, R175: bit 11 names no kind. -/
theorem test_setAlertMask :
    (after (exec .setAlertMask (asking busy (rq .fault 3 [0, 0])))).alertLine = false
      ∧ answer .setAlertMask busy (rq .fault 3 [8, 0]) = [(0x13, [])] := by decide +kernel

/-- R134. -/
theorem test_setWatchdog :
    (after (exec .setWatchdog (asking State.reset (rq .fault 4 [255, 1])))).watchdog
      = { period := 255, unit := .s1, remaining := 255, state := .running } := by decide +kernel

/-- R135. -/
theorem test_forceWatchdog :
    (after (exec .forceWatchdog (asking busy (rq .fault 5 [])))).watchdog.state = .expired
      ∧ answer .forceWatchdog State.reset (rq .fault 5 []) = [(0x20, [])] := by decide +kernel

/-- R178: the snapshot is from before the clear. -/
theorem test_readPortStats :
    ((answer .readPortStats { State.reset with portB := defaultPort.countReceived } (rq .stats 1 [1, 1])).map
        fun r => (r.2.take 4, r.2.length)) = [([0, 0, 0, 1], 44)]
      ∧ (after (exec .readPortStats (asking { State.reset with portB := defaultPort.countReceived }
          (rq .stats 1 [1, 1])))).portB.ctr.framesReceived = 0 := by decide +kernel

/-- R178: the tallies are reported and not cleared. -/
theorem test_readGroupStats :
    ((answer .readGroupStats busy (rq .stats 2 [0, 1])).map fun r => r.2.length) = [65]
      ∧ (groupAsked .readGroupStats runGroup .stats 2 [0, 1]).tallies.enqueued = 3 := by decide +kernel

theorem test_readChannelStats : answer .readChannelStats State.reset (rq .stats 3 [23, 0])
    = [(0x00, [0, 0, 0, 0, 0, 0, 0, 0, 0, 0, 0, 0])] := by decide +kernel

theorem test_readServoStats :
    answer .readServoStats { State.reset with servo := { defaultServoCounters with malformed := 256 } }
      (rq .stats 4 [0]) = [(0x00, [0, 0, 0, 0, 0, 0, 0, 0, 0, 0, 1, 0])] := by decide +kernel

/-- R161: SUPERVISION cannot be discarded, and DISCARD of DEVICE not on the carrying port. -/
theorem test_setClassAction :
    answer .setClassAction State.reset (rq .device 1 [0, 0x0F, 0xF0, 2]) = [(0x25, [])]
      ∧ answer .setClassAction State.reset (rq .device 1 [0, 0x0F, 0xF6, 2]) = [(0x25, [])]
      ∧ answer .setClassAction State.reset (rq .device 1 [1, 0x0F, 0xF6, 2]) = [(0x00, [])] := by
  decide +kernel

theorem test_readClassActions : answer .readClassActions State.reset (rq .device 2 [])
    = [(0x00, List.replicate 14 0)] := by decide +kernel

/-- R168. -/
theorem test_resetPart :
    (after (exec .resetPart (asking State.reset (rq .device 3 [1])))).resetInFlight = true
      ∧ answer .resetPart busy (rq .device 3 [0]) = [(0x20, [])] := by decide +kernel

/-- R159: an opcode that RUN does not define, whatever its length. -/
theorem test_undefinedOpcodeRequest :
    answer .undefinedOpcodeRequest State.reset (rq .run 9 [1, 2, 3]) = [(0x10, [])] := by decide +kernel

/-! ## Witnesses: the machine and the laws -/

theorem witness_stepRunsTheFrontCommand : busy.pending = [.playout 0, .keepalive] := by rfl

theorem witness_everyCommandAnswersAndTheEmptyQueueIdles : State.reset.pending = [] := by rfl

/-- Both settings of DEFMAP, at the ends of the entries' ranges. -/
theorem witness_powerOnGivesThePowerOnValues :
    (bothDefaults.straps.defmap = true ∧ (3 : MapIx).val = (3 : GroupIx).val)
      ∧ (resetPins.straps.defmap = false ∨ 4 ≤ (31 : MapIx).val) ∧ 4 ≤ (4 : MapIx).val := by decide

/-- A state that meets every law with groups at work, and a step from it: the witness of the sixteen
statements that a law is kept (ReplayQueueLawsAreKept to NoGroupMovesDuringAReset). -/
theorem witness_keptByEveryStep : busy.Safe ∧ ∃ t : State, step busy = .next t :=
  ⟨by
    and_intros <;> first
      | decide +kernel
      | intro g; and_intros <;> revert g <;> decide +kernel, _, rfl⟩

/-- The law of a reset in flight, at a state where one is, with a group FAULTED and one IDLE. -/
theorem witness_noGroupMovesDuringAReset :
    ({ withGroup faultedGroup with resetInFlight := true, pending := [.playout 0] } : State).ResetLaw
      ∧ ∃ t : State, step { withGroup faultedGroup with resetInFlight := true, pending := [.playout 0] }
        = .next t := ⟨by decide +kernel, _, rfl⟩

/-! ## Witnesses: requests -/

/-- A ready port, preferred or not; a reset in flight; a RESET_PART that waits; no port ready; and a take of
each sort. -/
theorem witness_arbiterServesThePreferredReadyPort :
    (asking State.reset (rq .run 8 [0])).ready .a = true
      ∧ (asking State.reset (rq .run 8 [0])).resetInFlight = false
      ∧ ({ asking State.reset (rq .run 8 [0]) with preferred := .b } : State).ready .b = false
      ∧ ({ asking State.reset (rq .run 8 [0]) with resetInFlight := true } : State).resetInFlight = true
      ∧ (∀ p ∈ [Port.a, .b], State.reset.ready p = false)
      ∧ (asking State.reset (rq .run 8 [0])).nextRequest = some (.a, rq .run 8 [0])
      ∧ (rq .run 8 [0]).kind = some .readGroupStatus ∧ (rq .run 9 [0]).kind = none
      ∧ (asking State.reset (rq .run 9 [0])).nextRequest = some (.a, rq .run 9 [0])
      ∧ (rq .device 3 [0]).kind = some .resetPart := by decide +kernel

/-- A request with the action EXECUTE_ECHO. -/
def echoing (q : Request) : Request := { q with action := .executeEcho }

/-- A part whose port A asks with an echo, and whose port B holds `n` echoes and has dropped 9. -/
def askingEcho (n : Nat) (q : Request) : State :=
  let s := asking State.reset (echoing q)
  { s with portB := { s.portB with
      echoes := List.replicate n telemetrySample, ctr := { s.portB.ctr with echoDropped := 9 } } }

/-- A take whose echo finds room at 3 and none at 4; an opcode its class does not define; and a
READ_PORT_STATS that has cleared the count of dropped echoes. -/
theorem witness_everyTakenRequestIsAnsweredOnce :
    (askingEcho 3 (rq .run 8 [0])).nextRequest = some (.a, echoing (rq .run 8 [0]))
      ∧ (rq .run 8 [0]).kind = some .readGroupStatus
      ∧ ((askingEcho 3 (rq .run 8 [0])).port .b).echoes.length < 4
      ∧ 4 ≤ ((askingEcho 4 (rq .run 8 [0])).port .b).echoes.length
      ∧ (askingEcho 4 (rq .run 9 [])).nextRequest = some (.a, echoing (rq .run 9 []))
      ∧ (rq .run 9 []).kind = none
      ∧ (askingEcho 4 (rq .stats 1 [1, 1])).nextRequest = some (.a, echoing (rq .stats 1 [1, 1]))
      ∧ (rq .stats 1 [1, 1]).kind = some .readPortStats
      ∧ (rq .stats 1 [1, 1]).operands = [BitVec.ofNat 8 (portCode (otherPort .a)), 1] := by
  decide +kernel

/-- R159, R164: an undefined opcode is answered BAD_OPCODE, and its echo dropped at four. -/
theorem test_undefinedOpcodeRequest_echo_dropped :
    answer .undefinedOpcodeRequest State.reset (rq .run 9 []) = [(0x10, [])]
      ∧ (after (exec .undefinedOpcodeRequest (askingEcho 4 (rq .run 9 [])))).portB.ctr.echoDropped = 10 := by
  decide +kernel

/-- R164, R178: the clear comes before the echo, so the dropped echo is the first of the cleared count. -/
theorem test_readPortStats_echo_dropped_after_clear :
    (after (exec .readPortStats (askingEcho 4 (rq .stats 1 [1, 1])))).portB.ctr.echoDropped = 1 := by
  decide +kernel

/-- A taken verdict at a transmitter that sends and at one at rest; an echo with room at 3 and none at 4;
and a RESET_PART with its landing. -/
theorem witness_takenRequestAnswersItsPayload :
    (busy.port .a).sending ≠ none ∧ (State.reset.port .a).sending = none
      ∧ (State.reset.port .a).responses = [] ∧ (State.reset.port .b).echoes = []
      ∧ (echoing (rq .run 8 [0])).action = .executeEcho ∧ (rq .run 8 [0]).action ≠ .executeEcho
      ∧ (echoing (rq .run 8 [0])).kind ≠ some .resetPart ∧ (rq .device 3 [1]).kind = some .resetPart
      ∧ ((askingEcho 3 (rq .run 8 [0])).port .b).echoes.length < 4
      ∧ 4 ≤ ((askingEcho 4 (rq .run 8 [0])).port .b).echoes.length
      ∧ ((State.reset.carryOut .a (rq .device 3 [1]) (.take true [5] State.reset)).portA.responses.map
          fun r => (r.frame.status, r.frame.payload, r.landing)) = [(0x01, [5], some .resample)] := by
  decide +kernel

theorem witness_refusedRequestChangesNoBlock :
    (asking State.reset (rq .supervision 0 [1])).nextRequest = some (.a, rq .supervision 0 [1])
      ∧ (rq .supervision 0 [1]).kind = none
      ∧ (asking State.reset (rq .supervision 2 [1])).nextRequest = some (.a, rq .supervision 2 [1])
      ∧ (rq .supervision 2 [1]).kind = some .keepalive
      ∧ (rq .supervision 2 [1]).operands.length ≠ ReqKind.length .keepalive := by decide +kernel

/-- The highest index of each read, on the busy part. -/
theorem witness_readsReportAndChangeNothing :
    Poses busy .supervision 1 [] ∧ Poses busy .supervision 3 []
      ∧ Poses busy .map 2 [BitVec.ofNat 8 (31 : MapIx).val] ∧ (busy.group 0).bound = some 0
      ∧ Poses busy .map 5 [BitVec.ofNat 8 (portCode .b)]
      ∧ Poses busy .setup 2 [BitVec.ofNat 8 (6 * (3 : GroupIx).val + (5 : LaneIx).val)]
      ∧ Poses busy .setup 4 [BitVec.ofNat 8 (15 : SetIx).val]
      ∧ Poses busy .setup 6 [BitVec.ofNat 8 (3 : GroupIx).val] ∧ Poses busy .device 2 [] := by decide +kernel

/-- Records within their laws: the defaults, and one at the ends of its ranges. -/
theorem witness_readPayloadsReadBackAsWrites :
    defaultLimitSet.Law ∧ defaultGroupConfig.Law ∧ defaultGenConfig.Law
      ∧ ({ defaultLimitSet with
            posLo := 5, posHi := 5, forceMax := 0,
            error := { deglitch := 255, mode := .retry, action := .null } } : LimitSet).Law
      ∧ ({ defaultGroupConfig with
            fadeStep := 4096, prefill := 64, retryTime := 65535, flowLimit := 2147483647, telemK := 255,
            telemPort := .b } : GroupConfig).Law
      ∧ ({ defaultGenConfig with pattern := .ramp, level := 0x8001, period := 2, count := none } : GenConfig).Law := by
  and_intros <;> decide +kernel

theorem witness_statsSnapshotsClearOnlyTheirSet :
    Poses busy .stats 1 [BitVec.ofNat 8 (portCode .b), 1] ∧ Poses busy .stats 2 [BitVec.ofNat 8 (3 : GroupIx).val, 2]
      ∧ Poses busy .stats 3 [BitVec.ofNat 8 (6 * (3 : GroupIx).val + (5 : LaneIx).val), 0]
      ∧ Poses busy .stats 4 [255] ∧ (1 : Byte).toNat ≤ 1 ∧ 2 ≤ (2 : Byte).toNat := by decide +kernel

theorem witness_readGroupStatusClearsTheDoneFlag :
    Poses busy .run 8 [BitVec.ofNat 8 (3 : GroupIx).val] := by decide +kernel

theorem witness_readFaultsReportsTheEpisode :
    Poses busy .fault 1 [BitVec.ofNat 8 (2 : GroupIx).val] := by decide +kernel

theorem witness_watchdogRequestsReload :
    Poses busy .supervision 2 [] ∧ Poses busy .fault 4 [255, 1] ∧ unitCode .s1 = (1 : Byte).toNat
      ∧ Poses busy .fault 4 [0, 2] ∧ 2 ≤ (2 : Byte).toNat := by decide +kernel

/-- A watchdog at its last unit, one before it, of another unit, and not running. -/
theorem witness_watchdogExpires :
    ({ busy with watchdog := { busy.watchdog with remaining := 1 } } : State).watchdog.state = .running
      ∧ busy.watchdog.state = .running ∧ busy.watchdog.unit = .ms10 ∧ busy.watchdog.unit ≠ .s1
      ∧ ({ busy with watchdog := { busy.watchdog with remaining := 2 } } : State).watchdog.state = .running
      ∧ State.reset.watchdog.state ≠ .running
      ∧ Poses busy .fault 5 [] ∧ Poses State.reset .fault 5 [] := by decide +kernel

theorem witness_singleValueWrites :
    Poses busy .map 4 [2, 0, 0, 0] ∧ Poses busy .map 4 [1, 3, 0x0F, 0xEF] ∧ Poses busy .map 4 [0, 0, 0x0F, 0xF0]
      ∧ 0xFEF < ((0x0F : Byte) ++ (0xF0 : Byte)).toNat
      ∧ Poses busy .map 4 [1, 2, 0x0F, 0xEF] ∧ portCode .b = (1 : Byte).toNat
      ∧ Admission.code .untaggedOnly = (2 : Byte).toNat ∧ ((0x0F : Byte) ++ (0xEF : Byte)).toNat ≤ 0xFEF
      ∧ Poses busy .setup 7 [1, 0] ∧ (busy.group 0).state ≠ .idle
      ∧ Poses State.reset .setup 7 [1, 0] ∧ (∀ g : GroupIx, (State.reset.group g).state = .idle)
      ∧ Rate.hertz .hz256 = ((1 : Byte) ++ (0 : Byte)).toNat
      ∧ (∀ r ∈ [Rate.hz256, .hz512, .hz1024, .hz2048], r.hertz ≠ ((1 : Byte) ++ (1 : Byte)).toNat)
      ∧ Poses busy .run 6 [BitVec.ofNat 8 (3 : GroupIx).val, 0x10, 0x01]
      ∧ Poses busy .fault 3 [0x08, 0] ∧ ((0x08 : Byte) ++ (0 : Byte)).getLsbD (11 : Fin 16).val = true
      ∧ Poses busy .fault 3 [0x07, 0xFE]
      ∧ (∀ i : Fin 16, (i.val = 0 ∨ 11 ≤ i.val) → ((0x07 : Byte) ++ (0xFE : Byte)).getLsbD i.val = false) := by
  and_intros <;> decide +kernel

theorem witness_setClassActionRespectsLockout :
    Poses busy .device 1 [2, 0x0F, 0xF0, 0] ∧ Poses busy .device 1 [0, 0x0F, 0xF7, 0]
      ∧ Poses busy .device 1 [0, 0x0F, 0xEF, 0] ∧ 0xFF6 < ((0x0F : Byte) ++ (0xF7 : Byte)).toNat
      ∧ ((0x0F : Byte) ++ (0xEF : Byte)).toNat < 0xFF0
      ∧ Poses busy .device 1 [0, 0x0F, 0xF0, 3] ∧ Poses busy .device 1 [1, 0x0F, 0xF6, 2]
      ∧ ((0x0F : Byte) ++ (0xF0 : Byte)).toNat = 0xFF0 + (ReqClass.ix .supervision).val
      ∧ ((0x0F : Byte) ++ (0xF6 : Byte)).toNat = 0xFF0 + (ReqClass.ix .device).val
      ∧ (busy.port .a).actionFor .device ≠ .discard ∧ Port.b ≠ .a
      ∧ Poses busy .device 1 [1, 0x0F, 0xF1, 3] ∧ ClassAction.code .discard = (2 : Byte).toNat := by
  decide +kernel

theorem witness_resetPartPutsAResetInFlight :
    Poses busy .device 3 [0] ∧ (busy.group 0).state ≠ .idle ∧ (busy.group 0).state ≠ .faulted
      ∧ Poses (withGroup faultedGroup) .device 3 [1] ∧ Poses (withGroup faultedGroup) .device 3 [2]
      ∧ (∀ g : GroupIx, ((withGroup faultedGroup).group g).state = .idle
          ∨ ((withGroup faultedGroup).group g).state = .faulted) := by decide +kernel

/-- One request of each kind of index, at the first value outside its range. -/
theorem witness_badIndexIsRefusedFirst :
    Poses busy .map 2 [32] ∧ Poses busy .map 1 [31, 0, 1, 0, 4, 1, 1] ∧ Poses busy .map 5 [2]
      ∧ Poses busy .setup 2 [24] ∧ Poses busy .setup 4 [16] ∧ Poses busy .run 8 [4] ∧ Poses busy .fault 2 [254]
      ∧ Poses busy .device 1 [0, 0x0F, 0xF7, 0] ∧ Poses busy .stats 3 [24, 0]
      ∧ Poses busy .setup 1 [23, 0, 0, 0, 0, 0, 0, 0, 0, 0, 0, 1, 0, 0, 16, 0] ∧ 16 ≤ natAt8 [16] 0 := by
  and_intros <;> decide +kernel

/-- A bound entry; a tag held on a shared port; each value outside its range; and an entry written. -/
theorem witness_mapEntryWritesAndClears :
    Poses busy .map 1 [BitVec.ofNat 8 (0 : MapIx).val, 1, 0, 0, BitVec.ofNat 8 (0 : GroupIx).val, 1, 1]
      ∧ (busy.group 0).bound = some 0 ∧ (∀ h : GroupIx, (busy.group h).bound ≠ some 31)
      ∧ Poses busy .map 1 [BitVec.ofNat 8 (31 : MapIx).val, 1, 3, 0, BitVec.ofNat 8 (3 : GroupIx).val, 1, 3]
      ∧ ((busy.map.get 3).valid = true ∧ (busy.map.get 3).tag.toNat = ((1 : Byte) ++ (3 : Byte)).toNat
          ∧ (busy.map.get 3).portMask.zeroExtend 8 &&& (3 : Byte) ≠ 0)
      ∧ Poses busy .map 1 [BitVec.ofNat 8 (31 : MapIx).val, 0, 0, 0, BitVec.ofNat 8 (3 : GroupIx).val, 63, 3]
      ∧ Poses busy .map 1 [BitVec.ofNat 8 (31 : MapIx).val, 0x0F, 0xEF, 1, BitVec.ofNat 8 (3 : GroupIx).val, 63, 3]
      ∧ (∀ j : MapIx, j ≠ 31 → (busy.map.get j).valid = true →
          (busy.map.get j).tag.toNat = ((0x0F : Byte) ++ (0xEF : Byte)).toNat →
          (busy.map.get j).portMask.zeroExtend 8 &&& (3 : Byte) = 0)
      ∧ (∀ j : MapIx, j ≠ 31 → (busy.map.get j).valid = true →
          (busy.map.get j).tag.toNat = ((0 : Byte) ++ (0 : Byte)).toNat →
          (busy.map.get j).portMask.zeroExtend 8 &&& (3 : Byte) = 0)
      ∧ Role.code .trim = (1 : Byte).toNat ∧ (63 : Byte).toNat < 64 ∧ (3 : Byte).toNat < 4
      ∧ Poses busy .map 3 [BitVec.ofNat 8 (0 : MapIx).val] ∧ Poses busy .map 3 [BitVec.ofNat 8 (31 : MapIx).val] := by
  and_intros <;> decide +kernel

theorem witness_writeProfileReplacesTheProfile :
    Poses busy .setup 1 [BitVec.ofNat 8 (6 * (0 : GroupIx).val + (5 : LaneIx).val), 0, 0, 0, 0, 0, 0, 0, 0, 0, 0, 1,
        0, 0, BitVec.ofNat 8 (15 : SetIx).val, 255]
      ∧ (busy.group 0).state ≠ .idle
      ∧ Poses busy .setup 1 [BitVec.ofNat 8 (6 * (3 : GroupIx).val + (5 : LaneIx).val), 0, 0, 0, 0, 2, 0, 0, 0, 1, 0, 1,
        0, 0, BitVec.ofNat 8 (15 : SetIx).val, 255]
      ∧ ((0 : Byte) ++ (1 : Byte)).toInt ≤ ((0 : Byte) ++ (1 : Byte)).toInt
      ∧ Poses busy .setup 1 [BitVec.ofNat 8 (6 * (3 : GroupIx).val + (5 : LaneIx).val), 0, 0, 0, 0, 1, 0, 0, 0x80, 0,
        0x7F, 0xFF, 0, 0, BitVec.ofNat 8 (15 : SetIx).val, 255]
      ∧ (busy.group 3).state = .idle ∧ Polarity.code .inverted = (1 : Byte).toNat
      ∧ ((0x80 : Byte) ++ (0 : Byte)).toInt < ((0x7F : Byte) ++ (0xFF : Byte)).toInt := by decide +kernel

theorem witness_writeLimitSetReplacesTheSet :
    Poses busy .setup 3 [BitVec.ofNat 8 (15 : SetIx).val, 0, 6, 0, 5, 0, 4, 3, 0, 0, 0, 0, 0, 0, 0, 0, 0, 0]
      ∧ ((0 : Byte) ++ (5 : Byte)).toInt < ((0 : Byte) ++ (6 : Byte)).toInt
      ∧ Poses busy .setup 3 [BitVec.ofNat 8 (15 : SetIx).val, 0, 5, 0, 5, 0, 1, 1, 0x80, 0, 1, 3, 2, 0, 0, 255, 0, 0]
      ∧ Mode.code .retry = (1 : Byte).toNat ∧ Action.code .hold = (1 : Byte).toNat
      ∧ Mode.code .off = (3 : Byte).toNat ∧ Action.code .null = (2 : Byte).toNat
      ∧ Mode.code .latch = (0 : Byte).toNat ∧ Action.code .park = (0 : Byte).toNat
      ∧ ((0 : Byte) ++ (5 : Byte)).toInt ≤ ((0 : Byte) ++ (5 : Byte)).toInt := by decide +kernel

/-- Operands of 0 (each below its range), with mode RETRY and action HOLD in every monitor, for port B. -/
def configOps (g : Byte) (mode action port : Byte) : List Byte :=
  g :: (List.replicate 12 0 ++ [mode, action, mode, action, mode, action, mode, action, mode, action]
    ++ List.replicate 9 0xFF ++ [port])

theorem witness_writeGroupConfigReplacesTheRecord :
    Poses busy .setup 5 (configOps 0 1 1 1) ∧ (configOps 0 1 1 1).length = 33
      ∧ byteAt (configOps 0 1 1 1) 0 = BitVec.ofNat 8 (0 : GroupIx).val ∧ (busy.group 0).state ≠ .idle
      ∧ Poses busy .setup 5 (configOps 3 4 0 2) ∧ (busy.group 3).state = .idle
      ∧ 4 ≤ natAt8 (configOps 3 4 0 2) 21 ∧ 2 ≤ natAt8 (configOps 3 4 0 2) 32
      ∧ Poses busy .setup 5 (configOps 3 1 1 1)
      ∧ (∀ i : Fin 5, Mode.code .retry = natAt8 (configOps 3 1 1 1) (13 + 2 * i.val)
          ∧ Action.code .hold = natAt8 (configOps 3 1 1 1) (14 + 2 * i.val))
      ∧ portCode .b = natAt8 (configOps 3 1 1 1) 32 := by decide +kernel

theorem witness_genConfigReplacesTheConfiguration :
    Poses busy .setup 8 [BitVec.ofNat 8 (0 : GroupIx).val, 0, 0, 0, 0, 0, 0, 0, 0, 0, 0, 63]
      ∧ (busy.group 0).state ≠ .idle ∧ (busy.group 0).state ≠ .armed
      ∧ Poses busy .setup 8 [BitVec.ofNat 8 (3 : GroupIx).val, 4, 0, 0, 0, 0, 0, 0, 0, 0, 0, 64]
      ∧ (busy.group 3).state = .idle
      ∧ Poses busy .setup 8 [BitVec.ofNat 8 (3 : GroupIx).val, 2, 0x80, 0, 0, 0, 0, 0, 0, 0, 0, 63]
      ∧ Pattern.code .ramp = (2 : Byte).toNat ∧ (63 : Byte).toNat < 64 := by decide +kernel

/-- An index above 31, an entry of another group, none named, and entry 3 for group 3; in each state of the
group and of the line that the rule judges. -/
theorem witness_armReadiesAnIdleGroup :
    Poses busy .run 1 [BitVec.ofNat 8 (3 : GroupIx).val, 254] ∧ (32 ≤ (254 : Byte).toNat ∧ (254 : Byte) ≠ 255)
      ∧ Poses busy .run 1 [BitVec.ofNat 8 (3 : GroupIx).val, 2] ∧ (busy.map.get 2).group ≠ 3
      ∧ Poses busy .run 1 [BitVec.ofNat 8 (0 : GroupIx).val, 255] ∧ (busy.group 0).state ≠ .idle
      ∧ Poses busy .run 1 [BitVec.ofNat 8 (3 : GroupIx).val, 3]
      ∧ ((busy.map.get 3).valid = true ∧ (busy.map.get 3).role = .primary ∧ (busy.map.get 3).group = 3)
      ∧ (busy.group 3).state = .idle ∧ busy.interlockOpen = false
      ∧ Poses { busy with interlockOpen := true } .run 1 [BitVec.ofNat 8 (3 : GroupIx).val, 3] := by
  decide +kernel

/-- A group not armed; one armed with the line open; one a frame short of its prefill; and one at it. -/
theorem witness_startsEnterFadeIn :
    Poses busy .run 3 [BitVec.ofNat 8 (0 : GroupIx).val] ∧ (busy.group 0).state ≠ .armed
      ∧ Poses { withGroup { runGroup with state := .armed } with interlockOpen := true } .run 3 [0]
      ∧ Poses (withGroup { runGroup with state := .armed }) .run 3 [BitVec.ofNat 8 (0 : GroupIx).val]
      ∧ runGroup.bound ≠ none ∧ (withGroup runGroup).interlockOpen = false
      ∧ ({ runGroup with cfg := { defaultGroupConfig with prefill := 2 } } : Group).queue.length < 2
      ∧ ({ defaultGroupConfig with prefill := 1 } : GroupConfig).prefill ≤ runGroup.queue.length
      ∧ Poses busy .run 7 [BitVec.ofNat 8 (0 : GroupIx).val]
      ∧ Poses (withGroup { runGroup with state := .armed }) .run 7 [BitVec.ofNat 8 (0 : GroupIx).val]
      ∧ Poses { withGroup { runGroup with state := .armed } with interlockOpen := true } .run 7 [0] := by
  decide +kernel

/-- Each request posed to a group in each state its rule names. -/
theorem witness_runsEndByRequest :
    (∀ st ∈ [GState.idle, .armed, .fadeIn, .run, .fadeOut, .parking, .held, .retryWait, .faulted],
      Poses (withGroup (inState st)) .run 2 [BitVec.ofNat 8 (0 : GroupIx).val]
        ∧ Poses (withGroup (inState st)) .run 4 [BitVec.ofNat 8 (0 : GroupIx).val]
        ∧ Poses (withGroup (inState st)) .run 5 [BitVec.ofNat 8 (0 : GroupIx).val]
        ∧ ((withGroup (inState st)).group 0).state = st) := by decide +kernel

/-- One group and all four; a group with nothing present, FAULTED and HELD; and one whose FLOW is present. -/
theorem witness_clearFaultsRemovesAbsentKinds :
    Poses busy .fault 2 [255] ∧ Poses busy .fault 2 [3] ∧ (3 : Byte).toNat < 4
      ∧ (busy.group 2).state = .faulted ∧ (busy.group 2).classOf .starve = some .action
      ∧ (busy.group 1).state = .held ∧ (busy.group 1).classOf .fbLoss = some .action
      ∧ ¬ (busy.group 1).cfg.fbLimit < (busy.group 1).sinceFb
      ∧ ({ heldGroup with att := 4095 } : Group).att < 4096 := by decide +kernel

/-! ## Witnesses: playouts -/

/-- Every state, and E below, above and at its level; and E and A at the ends of their ranges. -/
theorem witness_envelopeStepsAndFormsTheFactor :
    (inState .fadeIn).env < (inState .fadeIn).level
      ∧ ({ runGroup with level := 0 } : Group).level < runGroup.env ∧ runGroup.env = runGroup.level
      ∧ (inState .fadeOut).state = .fadeOut ∧ (inState .parking).state = .parking
      ∧ heldGroup.state ∈ [GState.idle, .armed, .held, .retryWait, .faulted]
      ∧ runGroup.env ≤ 4096 ∧ runGroup.level ≤ 4096 ∧ runGroup.state.live = true
      ∧ combinedFactor 4096 4096 ≤ 4096 ∧ combinedFactor 1 4096 ≤ 4096 := by decide +kernel

/-- A live group, a parking and a held one; a slew limit of 0 and not; a demand over, under and at the limit. -/
theorem witness_outputsFollowTheState :
    (0 < 4096 ∧ 4096 % 2 = 0)
      ∧ runGroup.state.live = true ∧ (inState .parking).state = .parking ∧ heldGroup.state = .held
      ∧ waitingGroup.state ∈ [GState.idle, .armed, .retryWait, .faulted]
      ∧ ((runGroup.chans.get 0).profile.slew = 0 ∧ (runGroup.chans.get 0).profile.polarity = .normal)
      ∧ runGroup.cfg.flowLimit = 0
      ∧ (lanes.map fun l => (runGroup.chans.get l).profile.weight
          * (((groupAfter (.playout 0) runGroup).chans.get l).yPrev.toInt
            - (runGroup.chans.get l).yPrev.toInt).natAbs).sum = 600 := by decide +kernel

theorem witness_slewBoundsLiveParkingAndHeldMoves :
    ({ runGroup with chans := Tab.fill { defaultChannel with profile := { defaultProfile with slew := 1 } } } :
        Group).OutputLaw
      ∧ runGroup.state ∈ [GState.fadeIn, .run, .fadeOut, .parking, .held]
      ∧ ({ defaultProfile with slew := 1 } : Profile).slew ≠ 0 := by decide +kernel

theorem witness_playoutsTakeSkipOrUnderrun :
    (runGroup.state.live = true ∧ runGroup.source = .stream
        ∧ runGroup.queue = frameEntry 4 (Tab.fill (some 100)) :: [])
      ∧ ({ runGroup with queue := [] } : Group).queue = []
      ∧ (groupAfter (.playout 0) runGroup).state ∈ [GState.fadeIn, .run, .fadeOut, .parking, .held]
      ∧ heldGroup.state ∈ [GState.parking, .held, .retryWait]
      ∧ (groupAfter (.playout 0) heldGroup).state ∈ [GState.fadeIn, .parking, .held, .retryWait]
      ∧ faultedGroup.state ∈ [GState.idle, .armed, .faulted]
      ∧ (groupAfter (.playout 0) faultedGroup).state = faultedGroup.state := by decide +kernel

/-- Each pattern with its value, at the ends of the phase; a playout that keeps the queue, one that ends in
a flush and one that ends in RETRY_WAIT. -/
theorem witness_generatedPlayoutsFollowThePattern :
    generatorGroup.state.live = true ∧ generatorGroup.source = .generator
      ∧ (500 : Int) = (generatorGroup.gen.level.toInt.natAbs : Int)
      ∧ (500 : Int) - 2 * 500 * ((255 : Nat) : Int) / ((256 : Nat) : Int) = -496
      ∧ Int.tdiv (500 * ((((0xACE1 : BitVec 16).toNat : Nat) : Int) - 32768)) 32768 = 175
      ∧ (groupAfter (.playout 0) generatorGroup).state ∈ [GState.fadeIn, .run, .fadeOut, .parking, .held]
      ∧ (groupAfter (.playout 0) { generatorGroup with state := .fadeOut, env := 1, gen := defaultGenConfig }).state
          = .armed
      ∧ (generatorGroup.state ≠ .fadeOut ∧ (groupAfter (.playout 0) { generatorGroup with
          sinceFb := 16
          cfg := { defaultGroupConfig with fbLoss := { mode := .retry, action := .null } } }).state
            = .retryWait) := by decide +kernel

/-- A quiet playout of each kind: running, ended, bursting, faded out, parked toward each target, waiting. -/
theorem witness_playoutsCompleteTimedOperations :
    runGroup.playoutEvents = [] ∧ generatorGroup.playoutEvents = [] ∧ heldGroup.playoutEvents = []
      ∧ ({ generatorGroup with genRun := { defaultGenRun with ended := true } } : Group).genRun.ended = true
      ∧ (generatorGroup.genRun.ended = false ∧ generatorGroup.genRun.count < 16777215
          ∧ ({ defaultGenConfig with count := some 1 } : GenConfig).count
            = some (generatorGroup.genRun.count + 1))
      ∧ (inState .fadeOut).playoutEvents = [] ∧ (inState .fadeOut).stepped.env = 0
      ∧ (∀ l : LaneIx, ((groupAfter (.playout 0) (inState .fadeOut)).chans.get l).yPrev
          = ((inState .fadeOut).chans.get l).profile.park)
      ∧ ({ inState .fadeOut with env := 17 } : Group).stepped.env ≠ 0
      ∧ (inState .parking).playoutEvents = [] ∧ (inState .parking).stepped.env = 0
      ∧ ({ inState .parking with env := 65 } : Group).stepped.env ≠ 0
      ∧ waitingGroup.playoutEvents = [] ∧ 2 ≤ waitingGroup.retryTimer
      ∧ ({ waitingGroup with retryTimer := 1 } : Group).retryTimer = 1
      ∧ (∀ k ∈ kindList, waitingGroup.classOf k ≠ some .action)
      ∧ ({ waitingGroup with
            att := 4095, latched := (Tab.fill none).set Kind.flow.ix (some .action) } : Group).present
          false false .flow = true := by decide +kernel

/-- Each event where it comes about, and a group at which none does. -/
theorem witness_playoutEventRows :
    (runGroup.state.live = true ∧ runGroup.source = .stream ∧ ({ runGroup with queue := [] } : Group).queue = []
        ∧ 7 + 1 = runGroup.cfg.starveLimit)
      ∧ ({ runGroup with sinceFb := 16 } : Group).sinceFb = runGroup.cfg.fbLimit
      ∧ (generatorGroup.genRun.ended = false ∧ ({ defaultGenConfig with count := some 1 } : GenConfig).count
          = some (generatorGroup.genRun.count + 1))
      ∧ (((groupAfter (.playout 0) { runGroup with
            cfg := { defaultGroupConfig with clampLimit := 2 }
            chans := Tab.fill { defaultChannel with
              persist := 1, profile := { defaultProfile with slew := 1 } } }).chans.get 0).slewFlag = true)
      ∧ ({ waitingGroup with retryTimer := 1 } : Group).retryTimer = 1 ∧ 2 ≤ waitingGroup.retryTimer
      ∧ ({ defaultGroupConfig with telemK := 1 } : GroupConfig).telemK ≠ 0
      ∧ runGroup.telemCount + 1 = ({ defaultGroupConfig with telemK := 1 } : GroupConfig).telemK
      ∧ (busy.port .a).sending ≠ none ∧ (busy.port .b).sending = none ∧ (busy.port .b).SendLaw
      ∧ defaultGroup.state.live = false ∧ defaultGroup.cfg.telemK = 0 := by decide +kernel

/-! ## Witnesses: feedback, monitors, trips and the line -/

/-- A frame that fails each test in turn, and one accepted in RUN and in IDLE. -/
theorem witness_feedbackIsJudgedInOrder :
    crcOk [1, 2, 3] = false ∧ crcOk (sealFrame [0, 0, 0, 9]) = true ∧ (sealFrame [0, 0, 0, 9]).length ≠ 42
      ∧ crcOk (sealFrame (4 :: List.replicate 39 0)) = true
      ∧ 4 ≤ natAt8 (sealFrame (4 :: List.replicate 39 0)) 0
      ∧ crcOk goodFeedback = true ∧ goodFeedback.length = 42 ∧ natAt8 goodFeedback 0 = (0 : GroupIx).val
      ∧ (wordAt goodFeedback 2 - 9).toNat = 0 ∧ 4 ≤ ((13 : Seq) - wordAt goodFeedback 2).toNat
      ∧ ((12 : Seq) - wordAt goodFeedback 2).toNat ≤ 3 ∧ runGroup.lastEcho = none
      ∧ (runGroup.outSeq - wordAt goodFeedback 2).toNat ≤ 3
      ∧ (1 ≤ (wordAt goodFeedback 2 - 8).toNat ∧ (wordAt goodFeedback 2 - 8).toNat ≤ 32767)
      ∧ faultedGroup.state = .faulted := by decide +kernel

/-- A running group whose POSITION monitors stand at 254 of a deglitch count of 255, under a window that
begins at 1. -/
def nearTrip : State :=
  { withGroup { runGroup with
      chans := Tab.fill { defaultChannel with position := { cond := true, count := 254, tripped := false } } } with
    limitSets := Tab.fill { defaultLimitSet with
      posLo := 1, position := { deglitch := 255, mode := .latch, action := .park } } }

/-- The frame's value 0 lies below the window: the condition is present, the count reaches 255 and the monitor
trips; with FORCE, which is OFF, nothing trips; and the group parks, so that its records stand. -/
theorem witness_channelMonitorsTripAtTheirCount :
    nearTrip.judgeFeedback goodFeedback = .accepted 0
      ∧ (nearTrip.group 0).state ≠ .idle ∧ (nearTrip.group 0).state ≠ .faulted
      ∧ wordAt goodFeedback (4 + 6 * (5 : LaneIx).val + 0) = 0
      ∧ (0 : Du).toInt < ((nearTrip.limitSets.get ((nearTrip.group 0).chans.get 5).profile.limitSet).posLo).toInt
      ∧ min (((nearTrip.group 0).chans.get 5).position.count + 1) 255
          = (nearTrip.limitSets.get ((nearTrip.group 0).chans.get 5).profile.limitSet).position.deglitch
      ∧ (nearTrip.limitSets.get 0).position.mode ≠ .off
      ∧ ((nearTrip.group 0).chans.get 5).position.tripped = false
      ∧ (nearTrip.limitSets.get 0).force.mode = .off
      ∧ ((after (exec (.feedbackFrame goodFeedback) nearTrip)).group 0).state = .parking := by decide +kernel

/-- R122: the trip at its count. -/
theorem test_channelMonitorTrip_trips :
    ((after (exec (.channelMonitorTrip 5 .position goodFeedback) nearTrip)).group 0).classOf .position
      = some .action := by decide +kernel

theorem witness_tripsFollowTheirModeAndAction :
    defaultGroup.state = .idle ∧ runGroup.state ≠ .idle
      ∧ (∀ m ∈ [Mode.latch, .retry], m = .latch ∨ m = .retry)
      ∧ (groupEvent .starve none { mode := .retry, action := .null }).length = 1
      ∧ (runGroup.retryCount < runGroup.cfg.retryLimit ∧ strength runGroup.action < strength (some .park))
      ∧ (runGroup.trip { kind := .starve, lane := none, mode := .retry, action := some .null,
                         observed := none }).state = .retryWait
      ∧ (runGroup.trip { kind := .starve, lane := none, mode := .latch, action := some .hold,
                         observed := none }).state = .held
      ∧ (heldGroup.trip { kind := .starve, lane := none, mode := .latch, action := some .null,
                          observed := none }).state = .faulted
      ∧ waitingGroup.state = .retryWait
      ∧ waitingGroup.retryCount < waitingGroup.cfg.retryLimit := by decide +kernel

/-- R144: in RETRY_WAIT a retryable trip with a stronger action leaves state, action and outputs alone, and
a non-retryable one of no stronger action faults the group. -/
theorem test_trip_in_retryWait :
    (waitingGroup.trip { kind := .starve, lane := none, mode := .retry, action := some .null,
                         observed := none })
      = { waitingGroup with
          latched := waitingGroup.latched.set Kind.starve.ix (some .action)
          firstTrip := some { kind := .starve, lane := none, outSeq := 0, observed := none, mode := .retry }
          ctr := { waitingGroup.ctr with trips := 1 } }
      ∧ (waitingGroup.trip { kind := .starve, lane := none, mode := .latch, action := some .park,
                             observed := none }).state = .faulted := by decide +kernel

theorem witness_interlockFaultsEveryArmedGroup :
    busy.interlockOpen = false ∧ ({ busy with interlockOpen := true } : State).interlockOpen = true
      ∧ (busy.group 3).state = .idle ∧ (busy.group 0).state ≠ .idle ∧ (busy.group 0).state ≠ .faulted
      ∧ (busy.group 2).state = .faulted := by decide +kernel

/-! ## Witnesses: the ports -/

/-- A port that sends a record and one that sends nothing; a response, an echo and a record next; and a
RESET_PART response. -/
theorem witness_upstreamCompletionsSendAndChoose :
    (busy.port .b).sending = none
      ∧ (busy.port .a).sending = some { frame := telemetrySample, source := .detached, landing := none }
      ∧ telemetrySample.bytes = [0x0F, 0xFE, 3, 1, 2, 3, 0, 2, 1, 2]
          ++ outWord (crc [0x0F, 0xFE, 3, 1, 2, 3, 0, 2, 1, 2])
      ∧ (busy.port .a).responses = [] ∧ (busy.port .a).echoes = []
      ∧ (∀ g : GroupIx, (busy.port .a).slots.get g = none)
      ∧ ({ defaultPort with slots := (Tab.fill none).set 2 (some telemetrySample), nextGroup := 3 } :
          PortState).nextSlot = some (2, telemetrySample)
      ∧ ((after (exec .resetPart (asking State.reset (rq .device 3 [1])))).portA.sending.map fun f => f.landing)
          = some (some .resample)
      ∧ ((after (exec .keepalive (asking State.reset (rq .supervision 2 [])))).portA.sending.map
          fun f => f.source) = some .response := by decide +kernel

/-- One frame for each step that stops one, and a request that joins its queue at 3 and overflows at 4. -/
theorem witness_downstreamFramesStopAtTheFirstFault :
    State.reset.resetInFlight = false ∧ crcOk [1, 2, 3] = false
      ∧ (crcOk (sealFrame [1, 0]) = true ∧ (sealFrame [1, 0]).length < 8)
      ∧ (crcOk (sealFrame [0x10, 0, 0, 0, 0, 0]) = true ∧ 0x1000 ≤ natAt16 (sealFrame [0x10, 0, 0, 0, 0, 0]) 0)
      ∧ (crcOk (sealFrame [1, 0, 0, 0, 7, 0]) = true ∧ 6 < natAt8 (sealFrame [1, 0, 0, 0, 7, 0]) 4)
      ∧ (crcOk (sealFrame [0x0F, 0xF0, 0, 1, 0, 121]) = true
          ∧ 120 < natAt16 (sealFrame [0x0F, 0xF0, 0, 1, 0, 121]) 4)
      ∧ (crcOk (sealFrame [0x0F, 0xF7, 0, 1, 0, 0]) = true
          ∧ (sealFrame [0x0F, 0xF7, 0, 1, 0, 0]).length = 8 + natAt16 (sealFrame [0x0F, 0xF7, 0, 1, 0, 0]) 4
          ∧ 0xFF7 ≤ natAt16 (sealFrame [0x0F, 0xF7, 0, 1, 0, 0]) 0)
      ∧ (crcOk (sealFrame [0x0F, 0xF6, 0, 1, 0, 0]) = true
          ∧ natAt16 (sealFrame [0x0F, 0xF6, 0, 1, 0, 0]) 0 = 0xFF0 + (ReqClass.ix .device).val
          ∧ State.reset.portA.actionFor .device ≠ .discard
          ∧ ({ defaultPort with actions := Tab.fill .discard } : PortState).actionFor .device = .discard
          ∧ 4 ≤ (List.replicate 4 (rq .run 8 [0])).length ∧ (List.replicate 3 (rq .run 8 [0])).length < 4)
      ∧ (crcOk (sealFrame [0, 0, 0, 0, 1, 0, 0, 1]) = true ∧ natAt16 (sealFrame [0, 0, 0, 0, 1, 0, 0, 1]) 0 = 0
          ∧ State.reset.portA.policy.defaultTag = 0 ∧ byteAt (sealFrame [0, 0, 0, 0, 1, 0, 0, 1]) 5 = 0
          ∧ (sealFrame [0, 0, 0, 0, 1, 0, 0, 1]).length = 8 + 2 * natAt8 (sealFrame [0, 0, 0, 0, 1, 0, 0, 1]) 4)
      ∧ (crcOk (sealFrame [1, 4, 0, 0, 1, 0, 0, 1]) = true ∧ State.reset.portA.policy.policy ≠ .untaggedOnly
          ∧ (∀ i : MapIx, (busy.map.get i).valid = true → (busy.map.get i).tag.toNat = 0x104 →
              (busy.map.get i).portMask.getLsbD (portCode .a) = false)) := by decide +kernel

/-- A frame for the bound stream of group 0: in order, at a short gap, past it and behind. -/
theorem witness_streamFramesReachTheirQueueOrTrim :
    busy.MapLaw ∧ busy.resetInFlight = false ∧ crcOk (sealFrame [1, 0, 0, 5, 1, 0, 0, 1]) = true
      ∧ natAt16 (sealFrame [1, 0, 0, 5, 1, 0, 0, 1]) 0 = 0x100
      ∧ (byteAt (sealFrame [1, 0, 0, 5, 1, 0, 0, 1]) 5 = 0 ∧ natAt8 (sealFrame [1, 0, 0, 5, 1, 0, 0, 1]) 4 = 1
          ∧ (sealFrame [1, 0, 0, 5, 1, 0, 0, 1]).length = 8 + 2 * 1)
      ∧ (busy.port .a).policy.policy = .all
      ∧ ((busy.map.get 0).valid = true ∧ (busy.map.get 0).portMask.getLsbD (portCode .a) = true
          ∧ (busy.map.get 0).tag.toNat = 0x100 ∧ (busy.map.get 0).role = .primary ∧ (busy.map.get 0).group = 0)
      ∧ ((busy.group 0).bound = some 0 ∧ (busy.group 0).state ≠ .idle ∧ (busy.group 0).state ≠ .faulted
          ∧ (busy.group 0).source = .stream ∧ (busy.group 0).expected = some 5)
      ∧ (wordAt (sealFrame [1, 0, 0, 5, 1, 0, 0, 1]) 2 - 5).toNat = 0 ∧ ((7 : Seq) - 5).toNat = (busy.group 0).cfg.gapFill
      ∧ (busy.group 0).cfg.gapFill < ((8 : Seq) - 5).toNat ∧ 32767 < ((4 : Seq) - 5).toNat
      ∧ (busy.group 0).cfg.seqBreak.mode = .report ∧ (busy.group 0).tallies.enqueued ≤ 4294967295
      ∧ ((busy.group 3).bound ≠ some 3 ∨ (busy.group 3).state = .idle)
      ∧ (({ busy.map.get 0 with role := .trim, lastTrim := some 4 } : MapEntry).role = .trim
          ∧ 1 ≤ ((5 : Seq) - 4).toNat ∧ ((5 : Seq) - 4).toNat ≤ 32767 ∧ ((4 : Seq) - 4).toNat = 0) := by
  and_intros <;> decide +kernel

theorem witness_checkCodesCloseEveryFrame :
    ([0] : List Byte) ≠ [] ∧ ([0, 0] : List Byte).length < 3 ∧ (0 : Byte) ++ (0 : Byte) ≠ crc [0] := by
  decide +kernel

end Sys2Proof.Tests
end

section
/-! What a command can do, said once: every command is one of the events of `State.Event`, a downstream frame has
one of the fates of `State.FrameFate`, and a taken request has one of the effects of `State.Effect`. The laws
that every step keeps follow from these inversions. -/

namespace Sys2Proof.Machine

/-! ## The rows of the requests -/

/-- How the request of a kind is judged. -/
def ReqKind.judge : ReqKind → Port → Request → State → Verdict
  | .identify => judgeIdentify
  | .keepalive => judgeKeepalive
  | .readStatus => judgeReadStatus
  | .writeMapEntry => judgeWriteMapEntry
  | .readMapEntry => judgeReadMapEntry
  | .clearMapEntry => judgeClearMapEntry
  | .writePortPolicy => judgeWritePortPolicy
  | .readPortPolicy => judgeReadPortPolicy
  | .writeProfile => judgeWriteProfile
  | .readProfile => judgeReadProfile
  | .writeLimitSet => judgeWriteLimitSet
  | .readLimitSet => judgeReadLimitSet
  | .writeGroupConfig => judgeWriteGroupConfig
  | .readGroupConfig => judgeReadGroupConfig
  | .setRate => judgeSetRate
  | .genConfig => judgeGenConfig
  | .arm => judgeArm
  | .disarm => judgeDisarm
  | .start => judgeStart
  | .stop => judgeStop
  | .abort => judgeAbort
  | .setLevel => judgeSetLevel
  | .genStart => judgeGenStart
  | .readGroupStatus => judgeReadGroupStatus
  | .readFaults => judgeReadFaults
  | .clearFaults => judgeClearFaults
  | .setAlertMask => judgeSetAlertMask
  | .setWatchdog => judgeSetWatchdog
  | .forceWatchdog => judgeForceWatchdog
  | .readPortStats => judgeReadPortStats
  | .readGroupStats => judgeReadGroupStats
  | .readChannelStats => judgeReadChannelStats
  | .readServoStats => judgeReadServoStats
  | .setClassAction => judgeSetClassAction
  | .readClassActions => judgeReadClassActions
  | .resetPart => judgeResetPart

theorem exec_row (k : ReqKind) (s : State) : exec k.row s = takeRequest k k.judge s := by cases k <;> rfl

/-- The row of a request that the executor takes next, of the right length: it is carried out as judged. -/
theorem exec_asks {s : State} {p : Port} {q : Request} {c : ReqClass} {n : Nat} {ops : List Byte}
    (k : ReqKind) (h : s.Asks p q c n ops) (hk : requestOf c n = some k) (hl : ops.length = k.length) :
    exec k.row s = .next (s.carryOut p q (k.judge p q (s.dequeue p))) :=
  (exec_row k s).trans (takeRequest_asks h hk hl k.judge)

/-! ## The events -/

/-- What a command can do to the device. -/
inductive State.Event (s : State) : State → Prop
  | idle : s.Event s
  | powerOn (pins : Pins) : s.Event { State.fresh pins.straps pins with pending := s.pending }
  | frame (p : Port) (bs : List Byte) (h : s.resetInFlight = false) :
      s.Event ((s.modPort p PortState.countReceived).ingress p bs)
  | refused (p : Port) (q : Request) (st : Status) (hn : s.nextRequest = some (p, q)) :
      s.Event (s.carryOut p q (.refuse st))
  | taken (k : ReqKind) (p : Port) (q : Request) (adjusted : Bool) (payload : List Byte) (t : State)
      (hn : s.nextRequest = some (p, q)) (hk : q.kind = some k)
      (hv : k.judge p q (s.dequeue p) = .take adjusted payload t) :
      s.Event (s.carryOut p q (.take adjusted payload t))
  | playout (g : GroupIx) : s.Event (s.playout g)
  | feedback (bs : List Byte) : s.Event (s.feedback bs)
  | tick (u : TickUnit) : s.Event (s.tick u)
  | opening (h : s.interlockOpen = false) :
      s.Event { s with
        pins := { s.pins with interlockOpen := true }
        interlockOpen := true
        groups := s.groups.map Group.interlockTrip }.driveLines
  | closing : s.Event { s with pins := { s.pins with interlockOpen := false }, interlockOpen := false }
  | sendComplete (p : Port) (levels : Straps) : s.Event (s.sendComplete p levels)

theorem takeRequest_event {k : ReqKind} {s t : State} (h : takeRequest k k.judge s = .next t) : s.Event t := by
  rcases hn : s.nextRequest with _ | ⟨p, q⟩
  · rw [takeRequest_none _ hn] at h
    cases h
    exact .idle
  · by_cases hk : q.kind = some k
    · by_cases hl : q.operands.length = k.length
      · rw [takeRequest_taken _ hn hk hl] at h
        cases h
        cases hv : k.judge p q (s.dequeue p) with
        | refuse st => exact .refused p q st hn
        | take adjusted payload u => exact .taken k p q adjusted payload u hn hk hv
      · rw [takeRequest_badLength _ hn hk hl] at h
        cases h
        exact .refused p q .badLength hn
    · rw [takeRequest_other _ hn hk] at h
      cases h
      exact .idle

theorem undefinedOpcode_event {s t : State} (h : execUndefinedOpcodeRequest s = .next t) : s.Event t := by
  unfold execUndefinedOpcodeRequest at h
  split at h
  · cases h
    exact .idle
  · next p q hn =>
    split at h
    · cases h
      exact .refused p q .badOpcode hn
    · cases h
      exact .idle

theorem whenArises_event {b : Bool} {s t u : State} (h : whenArises b u s = .next t) (hu : s.Event u) :
    s.Event t := by
  rcases whenArises_cases b u s with ⟨he, -⟩ | ⟨he, -⟩
  · rw [he] at h
    cases h
    exact hu
  · rw [he] at h
    cases h
    exact .idle

/-- Every command is one of the events. -/
theorem exec_event {c : Instr} {s t : State} (h : exec c s = .next t) : s.Event t := by
  cases c with
  | powerOn pins => cases h; exact .powerOn pins
  | downstreamFrame p bs =>
    cases h
    split
    · exact .idle
    · next hr => exact .frame p bs (by simpa using hr)
  | undefinedOpcodeRequest => exact undefinedOpcode_event h
  | playout g => cases h; exact .playout g
  | retryTimerExpiry g => exact whenArises_event h (.playout g)
  | burstCompletion g => exact whenArises_event h (.playout g)
  | starveEvent g => exact whenArises_event h (.playout g)
  | clampPersistEvent g l => exact whenArises_event h (.playout g)
  | fbLossEvent g => exact whenArises_event h (.playout g)
  | telemetryRecord g => exact whenArises_event h (.playout g)
  | feedbackFrame bs => cases h; exact .feedback bs
  | channelMonitorTrip l k bs => exact whenArises_event h (.feedback bs)
  | watchdogTick u => cases h; exact .tick u
  | watchdogExpiry => exact whenArises_event h (.tick _)
  | interlockOpening =>
    cases h
    split
    · exact .idle
    · next ho => exact .opening (by simpa using ho)
  | interlockClosing =>
    cases h
    split
    · exact .closing
    · exact .idle
  | upstreamSendComplete p levels => cases h; exact .sendComplete p levels
  | identify => exact takeRequest_event (k := .identify) h
  | keepalive => exact takeRequest_event (k := .keepalive) h
  | readStatus => exact takeRequest_event (k := .readStatus) h
  | writeMapEntry => exact takeRequest_event (k := .writeMapEntry) h
  | readMapEntry => exact takeRequest_event (k := .readMapEntry) h
  | clearMapEntry => exact takeRequest_event (k := .clearMapEntry) h
  | writePortPolicy => exact takeRequest_event (k := .writePortPolicy) h
  | readPortPolicy => exact takeRequest_event (k := .readPortPolicy) h
  | writeProfile => exact takeRequest_event (k := .writeProfile) h
  | readProfile => exact takeRequest_event (k := .readProfile) h
  | writeLimitSet => exact takeRequest_event (k := .writeLimitSet) h
  | readLimitSet => exact takeRequest_event (k := .readLimitSet) h
  | writeGroupConfig => exact takeRequest_event (k := .writeGroupConfig) h
  | readGroupConfig => exact takeRequest_event (k := .readGroupConfig) h
  | setRate => exact takeRequest_event (k := .setRate) h
  | genConfig => exact takeRequest_event (k := .genConfig) h
  | arm => exact takeRequest_event (k := .arm) h
  | disarm => exact takeRequest_event (k := .disarm) h
  | start => exact takeRequest_event (k := .start) h
  | stop => exact takeRequest_event (k := .stop) h
  | abort => exact takeRequest_event (k := .abort) h
  | setLevel => exact takeRequest_event (k := .setLevel) h
  | genStart => exact takeRequest_event (k := .genStart) h
  | readGroupStatus => exact takeRequest_event (k := .readGroupStatus) h
  | readFaults => exact takeRequest_event (k := .readFaults) h
  | clearFaults => exact takeRequest_event (k := .clearFaults) h
  | setAlertMask => exact takeRequest_event (k := .setAlertMask) h
  | setWatchdog => exact takeRequest_event (k := .setWatchdog) h
  | forceWatchdog => exact takeRequest_event (k := .forceWatchdog) h
  | readPortStats => exact takeRequest_event (k := .readPortStats) h
  | readGroupStats => exact takeRequest_event (k := .readGroupStats) h
  | readChannelStats => exact takeRequest_event (k := .readChannelStats) h
  | readServoStats => exact takeRequest_event (k := .readServoStats) h
  | setClassAction => exact takeRequest_event (k := .setClassAction) h
  | readClassActions => exact takeRequest_event (k := .readClassActions) h
  | resetPart => exact takeRequest_event (k := .resetPart) h

/-- A law that does not read the queue of commands and that every event keeps is kept by every step. -/
theorem keptByEveryStep_of_event {law : State → Prop}
    (hq : ∀ (s : State) (rest : List Instr), law s → law { s with pending := rest })
    (he : ∀ s t : State, s.Event t → law s → law t) : KeptByEveryStep law := by
  intro s t hs hstep
  unfold step at hstep
  split at hstep
  · cases hstep
    exact hs
  · exact he _ t (exec_event hstep) (hq s _ hs)

end Sys2Proof.Machine
end

section
/-! What an event can do to a group, said once: every event moves every group by a chain of the moves of
`Group.Move`, each with what its cause makes sure of. A law of a group that every move keeps is kept by every
step. -/

namespace Sys2Proof.Machine

/-! ## The moves of a group -/

/-- What every monitor hands to the trip unit: an event of mode LATCH or RETRY carries an action (R115). -/
abbrev MonEvent.Acts (ev : MonEvent) : Prop := ev.mode ≠ .report → ev.action ≠ none

/-- A profile's park value lies in its range, which is not empty (R71). -/
abbrev Profile.RangeLaw (p : Profile) : Prop :=
  p.lmin.toInt < p.lmax.toInt ∧ p.lmin.toInt ≤ p.park.toInt ∧ p.park.toInt ≤ p.lmax.toInt

/-- What a single cause can do to a group, ARM apart: its binding is taken from the stream map. -/
inductive Group.Move (x : Group) : Group → Prop
  | fresh : x.Move defaultGroup
  | advance : x.Move x.advance
  | obtain : x.Move x.obtain.1
  | stepEnv : x.Move x.stepEnv
  | condition : x.Move x.condition
  | countSince : x.Move x.countSince
  | complete (before : GenRun) (w i : Bool) : x.Move (x.complete before w i)
  | decimate : x.Move x.decimate.1
  | trip (ev : MonEvent) (h : ev.Acts) : x.Move (x.trip ev)
  | interlockTrip : x.Move x.interlockTrip
  | acceptEcho (e : Seq) : x.Move (x.acceptEcho e)
  | staleEcho : x.Move x.countStaleFeedback
  | evaluate (sets : Tab 16 LimitSet) (ts : Tab 6 Triple) (h : x.state.watched = true) :
      x.Move (x.evaluate sets ts)
  | unbound : x.Move x.countUnbound
  | refused : x.Move x.countRefused
  | arrive (i : MapIx) (seq : Seq) (slots : Tab 6 (Option Du)) (h : x.judgePrimary i = .queued) :
      x.Move (x.arrive seq slots).1
  | staleTrim : x.Move x.countStale
  | trims (slots : Tab 6 (Option Du)) : x.Move (x.takeTrims slots)
  | profile (l : LaneIx) (prof : Profile) (hs : x.state = .idle) (hp : prof.Law) (hr : prof.RangeLaw) :
      x.Move (x.modChan l fun c => { c with profile := prof, yPrev := prof.park })
  | clearNaming (i : SetIx) : x.Move (x.clearNaming i)
  | configure (ops : List Byte) (c : GroupConfig) (hs : x.state = .idle) (hc : groupConfigOf ops = some c) :
      x.Move (x.configure c)
  | generator (ops : List Byte) (c : GenConfig) (hs : x.state = .idle ∨ x.state = .armed)
      (hc : genConfigOf ops = some c) : x.Move { x with gen := c }
  | disarm (hs : x.state = .armed) : x.Move x.enterIdle
  | start (hs : x.state = .armed) : x.Move { x.enterFadeIn with source := .stream }
  | stop : x.Move x.stopRun
  | abort (y : Group) (h : x.abortRun = some y) : x.Move y
  | level (v : Nat) (h : v ≤ 4096) : x.Move { x with level := v }
  | genStart (hs : x.state = .armed) : x.Move x.startGenerator
  | clearDone : x.Move { x with genDone := false }
  | clearFaults (w i : Bool) : x.Move (x.clearFaults w i)
  | clearCounters : x.Move { x with ctr := defaultGroupCounters }
  | clearClamps (l : LaneIx) :
      x.Move (x.modChan l fun c => { c with slewClamps := 0, rangeClamps := 0 })

/-- A chain of moves. -/
abbrev Group.Moves : Group → Group → Prop := Relation.ReflTransGen Group.Move

/-- What every move keeps, a chain of moves keeps. -/
theorem Group.Moves.keeps {law : Group → Prop} (hk : ∀ x y : Group, x.Move y → law x → law y) {x y : Group}
    (h : x.Moves y) (hx : law x) : law y := by
  induction h with
  | refl => exact hx
  | tail _ hm ih => exact hk _ _ hm ih

theorem Group.Moves.move {x y : Group} (h : x.Move y) : x.Moves y := .single h

/-! ## Events of the monitors -/

theorem groupEvent_acts (k : Kind) (l : Option LaneIx) (t : Treatment) : ∀ ev ∈ groupEvent k l t, ev.Acts := by
  intro ev hev
  unfold groupEvent at hev
  split at hev
  · simp at hev
  · simp_all [MonEvent.Acts]

theorem Channel.eventOf_acts (c : Channel) (ls : LimitSet) (t : Triple) (l : LaneIx) (k : ChannelKind) :
    ∀ ev ∈ c.eventOf ls t l k, ev.Acts := by
  intro ev hev
  unfold Channel.eventOf at hev
  split at hev
  · simp_all [MonEvent.Acts]
  · simp at hev

theorem Group.playoutEvents_acts (x : Group) : ∀ ev ∈ x.playoutEvents, ev.Acts := by
  intro ev hev
  simp only [Group.playoutEvents, List.mem_append, List.mem_flatMap] at hev
  rcases hev with ((h | ⟨l, -, h⟩) | h) | h
  · split at h
    · exact groupEvent_acts _ _ _ ev h
    · simp at h
  · exact groupEvent_acts _ _ _ ev h
  · split at h
    · simp_all [flowEvent]
    · simp at h
  · split at h
    · exact groupEvent_acts _ _ _ ev h
    · simp at h

theorem State.feedbackEvents_acts (s : State) (g : GroupIx) (bs : List Byte) :
    ∀ ev ∈ s.feedbackEvents g bs, ev.Acts := by
  intro ev hev
  unfold State.feedbackEvents at hev
  split at hev
  · simp only [Group.evalEvents, List.mem_flatMap] at hev
    obtain ⟨l, -, k, -, h⟩ := hev
    exact Channel.eventOf_acts _ _ _ _ _ ev h
  · simp at hev

theorem Group.watchdogEvents_acts (x : Group) : ∀ ev ∈ x.watchdogEvents, ev.Acts := by
  intro ev hev
  unfold Group.watchdogEvents at hev
  split at hev
  · exact groupEvent_acts _ _ _ ev hev
  · simp at hev

/-! ## Chains of moves -/

theorem Group.moves_tripAll (x : Group) {evs : List MonEvent} (h : ∀ ev ∈ evs, ev.Acts) :
    x.Moves (x.tripAll evs) := by
  induction evs generalizing x with
  | nil => exact .refl
  | cons ev rest ih =>
    exact (Group.Moves.move (.trip ev (h ev (by simp)))).trans (ih _ fun e he => h e (by simp [he]))

/-- A playout is a chain of moves, one for each of its parts (R8). -/
theorem Group.moves_played (x : Group) (w i : Bool) : x.Moves (x.played w i) := by
  have hf : x.Moves x.formed :=
    (Group.Moves.move .advance).tail .obtain |>.tail .stepEnv |>.tail .condition
  have hs : x.Moves (x.settled w i) := (hf.tail .countSince).tail (.complete x.genRun w i) |>.tail .decimate
  exact hs.trans (Group.moves_tripAll _ x.playoutEvents_acts)

theorem State.moves_heard (s : State) (g : GroupIx) (bs : List Byte) :
    (s.group g).Moves (s.heard g bs) := by
  unfold State.heard
  dsimp only
  split
  · next h => exact (Group.Moves.move (.acceptEcho _)).tail (.evaluate _ _ h)
  · exact .move (.acceptEcho _)

/-! ## Every group of the device -/

/-- Every group of one state moves to that of another. -/
abbrev State.GroupsMove (s t : State) : Prop := ∀ g : GroupIx, (s.group g).Moves (t.group g)

theorem State.GroupsMove.trans {s t u : State} (h : s.GroupsMove t) (k : t.GroupsMove u) : s.GroupsMove u :=
  fun g => (h g).trans (k g)

theorem State.GroupsMove.of_groups {s t : State} (h : t.groups = s.groups) : s.GroupsMove t := by
  intro g
  rw [State.group, State.group, h]

theorem State.GroupsMove.setGroup {s : State} {g : GroupIx} {x : Group} (h : (s.group g).Moves x) :
    s.GroupsMove (s.setGroup g x) := by
  intro j
  by_cases hj : j = g
  · subst hj
    rwa [State.group_setGroup]
  · rw [State.group_setGroup_ne s x hj]

theorem State.GroupsMove.modGroup {s : State} {g : GroupIx} {f : Group → Group}
    (h : (s.group g).Move (f (s.group g))) : s.GroupsMove (s.modGroup g f) := .setGroup (.move h)

theorem State.GroupsMove.deliver {s : State} {g : GroupIx} {evs : List MonEvent} (h : ∀ ev ∈ evs, ev.Acts) :
    s.GroupsMove (s.deliver g evs) :=
  State.GroupsMove.setGroup (Group.moves_tripAll _ h)

theorem State.GroupsMove.playout (s : State) (g : GroupIx) : s.GroupsMove (s.playout g) := by
  intro j
  by_cases hj : j = g
  · subst hj
    rw [State.playout_group]
    exact Group.moves_played _ _ _
  · rw [State.playout_group_ne s hj]

theorem State.group_countServoFrame (s : State) (g : GroupIx) : s.countServoFrame.group g = s.group g := rfl

theorem State.GroupsMove.feedback (s : State) (bs : List Byte) : s.GroupsMove (s.feedback bs) := by
  cases hj : s.judgeFeedback bs with
  | checkError => rw [State.feedback_checkError hj]; exact .of_groups rfl
  | malformed => rw [State.feedback_malformed hj]; exact .of_groups rfl
  | stale g =>
    rw [State.feedback_stale hj]
    exact .trans (.of_groups rfl) (.modGroup .staleEcho)
  | accepted g =>
    rw [State.feedback_accepted hj]
    have hh : s.countServoFrame.GroupsMove (s.countServoFrame.setGroup g (s.heard g bs)) :=
      .setGroup (s.moves_heard g bs)
    exact (State.GroupsMove.trans (.of_groups rfl) hh).trans (.deliver (s.feedbackEvents_acts g bs))

theorem State.GroupsMove.expireWatchdog (s : State) : s.GroupsMove s.expireWatchdog := by
  intro g
  have hg : s.expireWatchdog.group g = (s.group g).tripAll (s.group g).watchdogEvents := by
    simp [State.group]
  rw [hg]
  exact Group.moves_tripAll _ (s.group g).watchdogEvents_acts

theorem State.GroupsMove.tick (s : State) (u : TickUnit) : s.GroupsMove (s.tick u) := by
  rcases s.tick_cases u with ⟨h, -⟩ | ⟨h, -⟩ | ⟨h, -⟩
  · rw [h]; exact .expireWatchdog s
  · rw [h]; exact .of_groups rfl
  · rw [h]; exact .of_groups rfl

theorem State.GroupsMove.fresh {s t : State} (h : t.groups = Tab.fill defaultGroup) : s.GroupsMove t := by
  intro g
  rw [State.group, State.group, h, Tab.get_fill]
  exact .move .fresh

theorem State.GroupsMove.sendComplete (s : State) (p : Port) (levels : Straps) :
    s.GroupsMove (s.sendComplete p levels) := by
  rcases hs : (s.port p).sending with _ | f
  · rw [State.sendComplete_idle levels hs]; exact .of_groups rfl
  · rcases hl : f.landing with _ | k
    · rw [State.sendComplete_next levels hs hl]; exact .of_groups (by simp)
    · rw [State.sendComplete_land levels hs hl]
      exact .fresh rfl

end Sys2Proof.Machine
end

section
/-! A downstream frame by its fate, and a taken request by its effect on the device: two inversions, and what each
does to the groups. -/

namespace Sys2Proof.Machine

/-! ## Numbers read and bounded -/

theorem natAt8_le (bs : List Byte) (i : Nat) : natAt8 bs i ≤ 255 := by
  unfold natAt8
  omega

theorem natAt16_le (bs : List Byte) (i : Nat) : natAt16 bs i ≤ 65535 := by
  unfold natAt16
  omega

/-- A bounded number is one of its bounds or lies between them. -/
theorem clampInt_cases (lo hi v : Int) :
    clampInt lo hi v = lo ∧ v < lo ∨ clampInt lo hi v = hi ∧ lo ≤ v ∧ hi < v
      ∨ clampInt lo hi v = v ∧ lo ≤ v ∧ v ≤ hi := by
  unfold clampInt
  split
  · exact .inl ⟨rfl, ‹_›⟩
  · split
    · exact .inr (.inl ⟨rfl, by omega, ‹_›⟩)
    · exact .inr (.inr ⟨rfl, by omega, by omega⟩)

/-- A number bounded by two 16-bit values is a 16-bit value. -/
theorem toInt_ofInt_clampInt (lo hi : Du) (v : Int) :
    (BitVec.ofInt 16 (clampInt lo.toInt hi.toInt v)).toInt = clampInt lo.toInt hi.toInt v := by
  have hl := BitVec.le_toInt lo
  have hl' := BitVec.toInt_lt (x := lo)
  have hh := BitVec.le_toInt hi
  have hh' := BitVec.toInt_lt (x := hi)
  rw [BitVec.toInt_ofInt]
  apply Int.bmod_eq_of_le <;> rcases clampInt_cases lo.toInt hi.toInt v with h | h | h <;> omega

/-- The park value that a profile write stores lies in the profile's range (R71). -/
theorem parkValue_within {lo hi : Du} (v : Int) (h : lo.toInt < hi.toInt) :
    lo.toInt ≤ (BitVec.ofInt 16 (clampInt lo.toInt hi.toInt v)).toInt
      ∧ (BitVec.ofInt 16 (clampInt lo.toInt hi.toInt v)).toInt ≤ hi.toInt := by
  rw [toInt_ofInt_clampInt]
  rcases clampInt_cases lo.toInt hi.toInt v with hc | hc | hc <;> omega

/-! ## A downstream frame (R30) -/

/-- What the steps of ingress after FRAMES_RECEIVED can do with a frame. -/
inductive State.FrameFate (s : State) (p : Port) : State → Prop
  | counted (f : PortState → PortState) (h : f ∈ [PortState.countCheckError, PortState.countMalformed,
      PortState.countAdmitRefused, PortState.countUnknownTag]) : s.FrameFate p (s.modPort p f)
  | dispatched (bs : List Byte) : s.FrameFate p (s.modPort p fun x => x.dispatch bs)
  | unbound (g : GroupIx) : s.FrameFate p (s.modGroup g Group.countUnbound)
  | refused (g : GroupIx) : s.FrameFate p (s.modGroup g Group.countRefused)
  | queued (i : MapIx) (bs : List Byte) (seq : Seq) (slots : Tab 6 (Option Du))
      (h : (s.group (s.map.get i).group).judgePrimary i = .queued) :
      s.FrameFate p ((s.noteExcess p (s.map.get i) bs).driveArrival (s.map.get i).group seq slots)
  | staleTrim (g : GroupIx) : s.FrameFate p (s.modGroup g Group.countStale)
  | trimmed (i : MapIx) (bs : List Byte) (seq : Seq) (slots : Tab 6 (Option Du))
      (hr : (s.map.get i).role = .trim) (hv : (s.map.get i).valid = true) :
      s.FrameFate p
        { (s.noteExcess p (s.map.get i) bs).modGroup (s.map.get i).group (fun g => g.takeTrims slots) with
          map := s.map.set i { s.map.get i with lastTrim := some seq } }

@[simp] theorem State.noteExcess_map (s : State) (p : Port) (e : MapEntry) (bs : List Byte) :
    (s.noteExcess p e bs).map = s.map := by
  unfold State.noteExcess
  split <;> simp

@[simp] theorem State.noteExcess_groups (s : State) (p : Port) (e : MapEntry) (bs : List Byte) :
    (s.noteExcess p e bs).groups = s.groups := by
  unfold State.noteExcess
  split <;> simp

@[simp] theorem State.noteExcess_group (s : State) (p : Port) (e : MapEntry) (bs : List Byte) (g : GroupIx) :
    (s.noteExcess p e bs).group g = s.group g := by
  simp [State.group]

theorem State.primaryFrame_fate (s : State) (p : Port) (i : MapIx) (bs : List Byte) :
    s.FrameFate p (s.primaryFrame p i (s.map.get i) bs) := by
  unfold State.primaryFrame
  split
  · exact .unbound _
  · exact .refused _
  · next h => exact .queued i bs _ _ h

theorem State.trimFrame_fate (s : State) (p : Port) (i : MapIx) (bs : List Byte)
    (hr : (s.map.get i).role = .trim) (hv : (s.map.get i).valid = true) :
    s.FrameFate p (s.trimFrame p i (s.map.get i) bs) := by
  unfold State.trimFrame
  split
  · have hm : ((s.noteExcess p (s.map.get i) bs).modGroup (s.map.get i).group fun g =>
        g.takeTrims (laneSlots (s.map.get i).laneMask (samplesOf bs))).map = s.map := by simp
    dsimp only
    rw [hm]
    exact .trimmed i bs _ _ hr hv
  · exact .staleTrim _

theorem MapEntry.valid_of_matches {e : MapEntry} {tag : Nat} {p : Port} (h : e.matchesFrame tag p = true) :
    e.valid = true := by
  simp only [MapEntry.matchesFrame, Bool.and_eq_true] at h
  exact h.1.1

theorem State.streamFrame_fate (s : State) (p : Port) (bs : List Byte) :
    s.FrameFate p (s.streamFrame p bs) := by
  unfold State.streamFrame
  dsimp only
  split
  · exact .counted _ (by simp)
  · split
    · exact .counted _ (by simp)
    · split
      · exact .counted _ (by simp)
      · next i hl =>
        split
        · exact s.primaryFrame_fate p i bs
        · next hr => exact s.trimFrame_fate p i bs hr (MapEntry.valid_of_matches (State.lookup_matches hl))

/-- Every frame has one of the fates. -/
theorem State.ingress_fate (s : State) (p : Port) (bs : List Byte) : s.FrameFate p (s.ingress p bs) := by
  unfold State.ingress
  split
  · exact .counted _ (by simp)
  · split
    · exact .counted _ (by simp)
    · split
      · exact .dispatched bs
      · exact s.streamFrame_fate p bs

theorem State.GroupsMove.driveArrival {s : State} {g : GroupIx} {i : MapIx} (seq : Seq)
    (slots : Tab 6 (Option Du)) (h : (s.group g).judgePrimary i = .queued) :
    s.GroupsMove (s.driveArrival g seq slots) := by
  have ha : s.GroupsMove (s.setGroup g ((s.group g).arrive seq slots).1) :=
    .setGroup (.move (.arrive i seq slots h))
  unfold State.driveArrival
  dsimp only
  split
  · exact ha.trans (.deliver (groupEvent_acts _ _ _))
  · exact ha

theorem State.FrameFate.groupsMove {s t : State} {p : Port} (h : s.FrameFate p t) : s.GroupsMove t := by
  cases h with
  | counted f hf => exact .of_groups (by simp)
  | dispatched bs => exact .of_groups (by simp)
  | unbound g => exact .modGroup .unbound
  | refused g => exact .modGroup .refused
  | queued i bs seq slots h =>
    exact .trans (.of_groups (by simp)) (.driveArrival (i := i) seq slots (by simpa using h))
  | staleTrim g => exact .modGroup .staleTrim
  | trimmed i bs seq slots hr hv =>
    have hx : s.GroupsMove (s.noteExcess p (s.map.get i) bs) := .of_groups (by simp)
    exact (hx.trans (.modGroup (f := fun g => g.takeTrims slots) (.trims slots))).trans (.of_groups rfl)

/-! ## A taken request -/

/-- What a taken request of port `arrival` can leave of the device. -/
inductive State.Effect (s : State) (arrival : Port) : State → Prop
  | same : s.Effect arrival s
  | reload : s.Effect arrival { s with watchdog := s.watchdog.reload }
  | setWatchdog (n : Nat) (u : TickUnit) (h : n ≤ 255) : s.Effect arrival { s with watchdog :=
      { period := n, unit := u, remaining := n, state := if n = 0 then .disabled else .running } }
  | expire (h : s.watchdog.state = .running) : s.Effect arrival s.expireWatchdog
  | mapWrite (i : MapIx) (g : GroupIx) (tag role : Nat) (lm pm : BitVec 8) (e : MapEntry)
      (hb : s.boundGroup i = none) (hc : s.mapConflict i tag pm = false)
      (he : mapEntryOf g tag role lm pm = some e) : s.Effect arrival { s with map := s.map.set i e }
  | mapClear (i : MapIx) (hb : s.boundGroup i = none) :
      s.Effect arrival { s with map := s.map.set i clearedEntry }
  | policy (p : Port) (a : Admission) (tag : Nat) (h : tag ≤ 0xFEF) : s.Effect arrival
      (s.modPort p fun x => { x with policy := { policy := a, defaultTag := BitVec.ofNat 12 tag } })
  | actions (p : Port) (c : ReqClass) (n : Nat) (a : ClassAction) (hl : s.lockout arrival p c n = false)
      (ha : classActionOf n = some a) :
      s.Effect arrival (s.modPort p fun x => { x with actions := x.actions.set c.ix a })
  | limitSet (i : SetIx) (ops : List Byte) (ls : LimitSet) (h : limitSetOf ops = some ls) :
      s.Effect arrival { s with
        limitSets := s.limitSets.set i ls
        groups := s.groups.map fun (g : Group) => g.clearNaming i }
  | rate (r : Rate) (h : s.allIdle = true) : s.Effect arrival { s with rate := r }
  | arm (g : GroupIx) (n : Nat) (b : Option MapIx) (hb : s.armTarget g n = some b)
      (hs : (s.group g).state = .idle) (ho : s.interlockOpen = false) :
      s.Effect arrival (s.setGroup g ((s.group g).arm b))
  | group (g : GroupIx) (x : Group) (h : (s.group g).Move x) : s.Effect arrival (s.setGroup g x)
  | clearFaults (gs : List GroupIx) : s.Effect arrival (s.clearFaults gs)
  | alertMask (m : BitVec 16) (h : kindSetOk m = true) : s.Effect arrival { s with alertMask := m }.driveLines
  | freeCount (n : Nat) : s.Effect arrival { s with freeCount := n }
  | portCounters (p : Port) : s.Effect arrival (s.modPort p fun x => { x with ctr := defaultPortCounters })
  | servoCounters : s.Effect arrival { s with servo := defaultServoCounters }
  | reset (h : s.allResting = true) : s.Effect arrival { s with resetInFlight := true }

section Judging

variable {p : Port} {q : Request} {s t : State} {a : Bool} {pl : List Byte}

/-- What every answer of a request whose operand names a group does. -/
theorem onGroup_take {f : GroupIx → Verdict} (h : onGroup q f = .take a pl t) : ∃ g, f g = .take a pl t := by
  unfold onGroup at h
  split at h
  · cases h
  · next g _ => exact ⟨g, h⟩

theorem judgeWriteMapEntry_effect (h : judgeWriteMapEntry p q s = .take a pl t) : s.Effect p t := by
  unfold judgeWriteMapEntry at h
  split at h
  · split at h
    · cases h
    · next hb =>
      split at h
      · cases h
      · next hc =>
        split at h
        · cases h
        · next e he =>
          cases h
          exact .mapWrite _ _ _ _ _ _ e (by simpa using hb) (by simpa using hc) he
  · cases h

theorem judgeClearMapEntry_effect (h : judgeClearMapEntry p q s = .take a pl t) : s.Effect p t := by
  unfold judgeClearMapEntry at h
  split at h
  · cases h
  · split at h
    · cases h
    · next hb =>
      cases h
      exact .mapClear _ (by simpa using hb)

theorem judgeWritePortPolicy_effect (h : judgeWritePortPolicy p q s = .take a pl t) : s.Effect p t := by
  unfold judgeWritePortPolicy at h
  split at h
  · cases h
  · split at h
    · cases h
    · split at h
      · next ht =>
        cases h
        refine .policy _ _ _ ?_
        simp only [streamTagOk, Bool.and_eq_true, decide_eq_true_eq] at ht
        omega
      · cases h

theorem judgeWriteProfile_effect (h : judgeWriteProfile p q s = .take a pl t) : s.Effect p t := by
  unfold judgeWriteProfile at h
  split at h
  · next g l ls hc hl =>
    split at h
    · cases h
    · next hs =>
      split at h
      · cases h
      · dsimp only at h
        split at h
        · cases h
        · next hr =>
          cases h
          refine .group g _ (.profile l _ (by simpa using hs) ⟨natAt16_le _ _, natAt16_le _ _, natAt8_le _ _⟩ ?_)
          exact ⟨by simpa using hr, parkValue_within _ (by simpa using hr)⟩
  · cases h

theorem judgeWriteLimitSet_effect (h : judgeWriteLimitSet p q s = .take a pl t) : s.Effect p t := by
  unfold judgeWriteLimitSet at h
  split at h
  · cases h
  · split at h
    · cases h
    · next ls hls =>
      cases h
      exact .limitSet _ _ ls hls

theorem judgeWriteGroupConfig_effect (h : judgeWriteGroupConfig p q s = .take a pl t) : s.Effect p t := by
  unfold judgeWriteGroupConfig at h
  split at h
  · cases h
  · split at h
    · cases h
    · next hs =>
      split at h
      · cases h
      · next c hc =>
        obtain ⟨-, -, rfl⟩ := Verdict.take.inj h
        exact .group _ _ (.configure _ c (by simpa using hs) hc)

theorem judgeSetRate_effect (h : judgeSetRate p q s = .take a pl t) : s.Effect p t := by
  unfold judgeSetRate at h
  split at h
  · next hi =>
    split at h
    · cases h
    · cases h
      exact .rate _ hi
  · cases h

theorem judgeGenConfig_effect (h : judgeGenConfig p q s = .take a pl t) : s.Effect p t := by
  unfold judgeGenConfig at h
  split at h
  · cases h
  · split at h
    · cases h
    · next hs =>
      split at h
      · cases h
      · next c hc =>
        obtain ⟨-, -, rfl⟩ := Verdict.take.inj h
        exact .group _ _ (.generator _ c (by tauto) hc)

theorem judgeArm_effect (h : judgeArm p q s = .take a pl t) : s.Effect p t := by
  obtain ⟨g, h⟩ := onGroup_take h
  split at h
  · cases h
  · next b hb =>
    split at h
    · cases h
    · next hs =>
      split at h
      · cases h
      · next ho =>
        cases h
        exact .arm g _ b hb (by simpa using hs) (by simpa using ho)

theorem judgeDisarm_effect (h : judgeDisarm p q s = .take a pl t) : s.Effect p t := by
  obtain ⟨g, h⟩ := onGroup_take h
  split at h
  · next hs =>
    cases h
    exact .group g _ (.disarm hs)
  · cases h

theorem judgeStart_effect (h : judgeStart p q s = .take a pl t) : s.Effect p t := by
  obtain ⟨g, h⟩ := onGroup_take h
  dsimp only at h
  split at h
  · cases h
  · next hs =>
    split at h
    · cases h
    · split at h
      · cases h
      · cases h
        exact .group g _ (.start (by tauto))

theorem judgeStop_effect (h : judgeStop p q s = .take a pl t) : s.Effect p t := by
  obtain ⟨g, h⟩ := onGroup_take h
  split at h
  · cases h
    exact .group g _ .stop
  · cases h

theorem judgeAbort_effect (h : judgeAbort p q s = .take a pl t) : s.Effect p t := by
  obtain ⟨g, h⟩ := onGroup_take h
  split at h
  · next x hx =>
    cases h
    exact .group g x (.abort x hx)
  · cases h

theorem judgeSetLevel_effect (h : judgeSetLevel p q s = .take a pl t) : s.Effect p t := by
  obtain ⟨g, h⟩ := onGroup_take h
  cases h
  exact .group g _ (.level _ (Nat.min_le_right _ _))

theorem judgeGenStart_effect (h : judgeGenStart p q s = .take a pl t) : s.Effect p t := by
  obtain ⟨g, h⟩ := onGroup_take h
  split at h
  · cases h
  · next hs =>
    split at h
    · cases h
    · cases h
      exact .group g _ (.genStart (by simpa using hs))

theorem judgeReadGroupStatus_effect (h : judgeReadGroupStatus p q s = .take a pl t) : s.Effect p t := by
  obtain ⟨g, h⟩ := onGroup_take h
  cases h
  exact .group g _ .clearDone

theorem judgeReadFaults_effect (h : judgeReadFaults p q s = .take a pl t) : s.Effect p t := by
  unfold judgeReadFaults at h
  split at h
  · cases h
  · cases h
    split
    · exact .freeCount _
    · exact .same

theorem judgeClearFaults_effect (h : judgeClearFaults p q s = .take a pl t) : s.Effect p t := by
  unfold judgeClearFaults at h
  split at h
  · cases h
  · cases h
    exact .clearFaults _

theorem judgeSetAlertMask_effect (h : judgeSetAlertMask p q s = .take a pl t) : s.Effect p t := by
  unfold judgeSetAlertMask at h
  split at h
  · next hm =>
    cases h
    exact .alertMask _ hm
  · cases h

theorem judgeSetWatchdog_effect (h : judgeSetWatchdog p q s = .take a pl t) : s.Effect p t := by
  unfold judgeSetWatchdog at h
  split at h
  · cases h
  · cases h
    exact .setWatchdog _ _ (by unfold natAt8; omega)

theorem judgeForceWatchdog_effect (h : judgeForceWatchdog p q s = .take a pl t) : s.Effect p t := by
  unfold judgeForceWatchdog at h
  split at h
  · next hs =>
    cases h
    exact .expire hs
  · cases h

theorem judgeReadPortStats_effect (h : judgeReadPortStats p q s = .take a pl t) : s.Effect p t := by
  unfold judgeReadPortStats at h
  split at h
  · cases h
  · split at h
    · cases h
    · cases h
      split
      · exact .portCounters _
      · exact .same

theorem judgeReadGroupStats_effect (h : judgeReadGroupStats p q s = .take a pl t) : s.Effect p t := by
  unfold judgeReadGroupStats at h
  split at h
  · cases h
  · split at h
    · cases h
    · cases h
      split
      · exact .group _ _ .clearCounters
      · exact .same

theorem judgeReadChannelStats_effect (h : judgeReadChannelStats p q s = .take a pl t) : s.Effect p t := by
  unfold judgeReadChannelStats at h
  split at h
  · cases h
  · split at h
    · cases h
    · cases h
      split
      · exact .group _ _ (.clearClamps _)
      · exact .same

theorem judgeReadServoStats_effect (h : judgeReadServoStats p q s = .take a pl t) : s.Effect p t := by
  unfold judgeReadServoStats at h
  split at h
  · cases h
  · cases h
    split
    · exact .servoCounters
    · exact .same

theorem judgeSetClassAction_effect (h : judgeSetClassAction p q s = .take a pl t) : s.Effect p t := by
  unfold judgeSetClassAction at h
  split at h
  · split at h
    · cases h
    · next hl =>
      split at h
      · cases h
      · next ha =>
        cases h
        exact .actions _ _ _ _ (by simpa using hl) ha
  · cases h

theorem judgeResetPart_effect (h : judgeResetPart p q s = .take a pl t) : s.Effect p t := by
  unfold judgeResetPart at h
  split at h
  · next hr =>
    split at h
    · cases h
    · cases h
      exact .reset hr
  · cases h

theorem judgeReadMapEntry_effect (h : judgeReadMapEntry p q s = .take a pl t) : s.Effect p t := by
  unfold judgeReadMapEntry at h
  split at h
  · cases h
  · cases h
    exact .same

theorem judgeReadPortPolicy_effect (h : judgeReadPortPolicy p q s = .take a pl t) : s.Effect p t := by
  unfold judgeReadPortPolicy at h
  split at h
  · cases h
  · cases h
    exact .same

theorem judgeReadProfile_effect (h : judgeReadProfile p q s = .take a pl t) : s.Effect p t := by
  unfold judgeReadProfile at h
  split at h
  · cases h
  · cases h
    exact .same

theorem judgeReadLimitSet_effect (h : judgeReadLimitSet p q s = .take a pl t) : s.Effect p t := by
  unfold judgeReadLimitSet at h
  split at h
  · cases h
  · cases h
    exact .same

theorem judgeReadGroupConfig_effect (h : judgeReadGroupConfig p q s = .take a pl t) : s.Effect p t := by
  unfold judgeReadGroupConfig at h
  split at h
  · cases h
  · cases h
    exact .same

/-- Every taken request has one of the effects. -/
theorem judge_effect (k : ReqKind) (h : k.judge p q s = .take a pl t) : s.Effect p t := by
  cases k with
  | identify => cases h; exact .same
  | keepalive => cases h; exact .reload
  | readStatus => cases h; exact .same
  | writeMapEntry => exact judgeWriteMapEntry_effect h
  | readMapEntry => exact judgeReadMapEntry_effect h
  | clearMapEntry => exact judgeClearMapEntry_effect h
  | writePortPolicy => exact judgeWritePortPolicy_effect h
  | readPortPolicy => exact judgeReadPortPolicy_effect h
  | writeProfile => exact judgeWriteProfile_effect h
  | readProfile => exact judgeReadProfile_effect h
  | writeLimitSet => exact judgeWriteLimitSet_effect h
  | readLimitSet => exact judgeReadLimitSet_effect h
  | writeGroupConfig => exact judgeWriteGroupConfig_effect h
  | readGroupConfig => exact judgeReadGroupConfig_effect h
  | setRate => exact judgeSetRate_effect h
  | genConfig => exact judgeGenConfig_effect h
  | arm => exact judgeArm_effect h
  | disarm => exact judgeDisarm_effect h
  | start => exact judgeStart_effect h
  | stop => exact judgeStop_effect h
  | abort => exact judgeAbort_effect h
  | setLevel => exact judgeSetLevel_effect h
  | genStart => exact judgeGenStart_effect h
  | readGroupStatus => exact judgeReadGroupStatus_effect h
  | readFaults => exact judgeReadFaults_effect h
  | clearFaults => exact judgeClearFaults_effect h
  | setAlertMask => exact judgeSetAlertMask_effect h
  | setWatchdog => exact judgeSetWatchdog_effect h
  | forceWatchdog => exact judgeForceWatchdog_effect (q := q) h
  | readPortStats => exact judgeReadPortStats_effect h
  | readGroupStats => exact judgeReadGroupStats_effect h
  | readChannelStats => exact judgeReadChannelStats_effect h
  | readServoStats => exact judgeReadServoStats_effect h
  | setClassAction => exact judgeSetClassAction_effect h
  | readClassActions => cases h; exact .same
  | resetPart => exact judgeResetPart_effect h

end Judging

/-! ## What the effects do to the groups -/

/-- ARM readies a group with a binding that its operand names (R20). -/
abbrev State.Arms (s t : State) : Prop :=
  ∃ (g : GroupIx) (n : Nat) (b : Option MapIx), s.armTarget g n = some b ∧ (s.group g).state = .idle
    ∧ s.interlockOpen = false ∧ t.groups = s.groups.set g ((s.group g).arm b) ∧ t.map = s.map

theorem State.Effect.groupsMove {s t : State} {p : Port} (h : s.Effect p t) : s.GroupsMove t ∨ s.Arms t := by
  cases h with
  | arm g n b hb hs ho => exact .inr ⟨g, n, b, hb, hs, ho, rfl, rfl⟩
  | group g x h => exact .inl (.setGroup (.move h))
  | expire h => exact .inl (.expireWatchdog s)
  | limitSet i ops ls h =>
    refine .inl fun g => ?_
    simp only [State.group, Tab.get_map]
    exact .move (.clearNaming i)
  | clearFaults gs =>
    refine .inl fun g => ?_
    have hg : (s.clearFaults gs).group g =
        if g ∈ gs then (s.group g).clearFaults s.wdExpired s.interlockOpen else s.group g := by
      simp [State.clearFaults, State.driveLines, State.group]
    rw [hg]
    split
    · exact .move (.clearFaults _ _)
    · exact .refl
  | same => exact .inl (.of_groups rfl)
  | reload => exact .inl (.of_groups rfl)
  | setWatchdog n u h => exact .inl (.of_groups rfl)
  | mapWrite i g tag role lm pm e hb hc he => exact .inl (.of_groups rfl)
  | mapClear i hb => exact .inl (.of_groups rfl)
  | policy p a tag h => exact .inl (.of_groups (by simp))
  | actions p c n a hl ha => exact .inl (.of_groups (by simp))
  | rate r h => exact .inl (.of_groups rfl)
  | alertMask m h => exact .inl (.of_groups rfl)
  | freeCount n => exact .inl (.of_groups rfl)
  | portCounters p => exact .inl (.of_groups (by simp))
  | servoCounters => exact .inl (.of_groups rfl)
  | reset h => exact .inl (.of_groups rfl)

/-- What every event does to the groups: each moves, but for the one that ARM readies. -/
theorem State.Event.groupsMove {s t : State} (h : s.Event t) : s.GroupsMove t ∨ s.Arms t := by
  cases h with
  | idle => exact .inl (.of_groups rfl)
  | powerOn pins => exact .inl (.fresh rfl)
  | frame p bs hr =>
    have hf := (State.ingress_fate (s.modPort p PortState.countReceived) p bs).groupsMove
    exact .inl (.trans (.of_groups (by simp)) hf)
  | refused p q st hn => exact .inl (.of_groups (by simp))
  | taken k p q a pl u hn hk hv =>
    have hd : s.GroupsMove (s.dequeue p) := .of_groups (by simp)
    rcases (judge_effect k hv).groupsMove with hm | ⟨g, n, b, hb, hs, ho, hg, hmap⟩
    · exact .inl ((hd.trans hm).trans (.of_groups (by simp)))
    · refine .inr ⟨g, n, b, ?_, by simpa using hs, by simpa using ho, by simpa using hg, by simpa using hmap⟩
      simpa [State.armTarget] using hb
  | playout g => exact .inl (.playout s g)
  | feedback bs => exact .inl (.feedback s bs)
  | tick u => exact .inl (.tick s u)
  | opening ho =>
    refine .inl fun g => ?_
    simp only [State.group, State.driveLines_groups, Tab.get_map]
    exact .move .interlockTrip
  | closing => exact .inl (.of_groups rfl)
  | sendComplete p levels => exact .inl (.sendComplete s p levels)

/-- A law of a group that every move keeps, and ARM, every event keeps for every group. -/
theorem State.Event.keepsEachGroup {law : Group → Prop} (hm : ∀ x y : Group, x.Move y → law x → law y)
    (ha : ∀ (x : Group) (b : Option MapIx), x.state = .idle → law x → law (x.arm b)) {s t : State}
    (h : s.Event t) (hs : s.EachGroup law) : t.EachGroup law := by
  intro g
  rcases h.groupsMove with hg | ⟨j, n, b, -, hi, -, hg, -⟩
  · exact (hg g).keeps hm (hs g)
  · by_cases hj : j = g
    · subst hj
      simpa [State.group, hg] using ha _ b hi (hs j)
    · simpa [State.group, hg, Tab.get_set_ne _ _ hj] using hs g

end Sys2Proof.Machine
end

section
/-! The parts of a group's moves by case: the sample source, the completions of step 6, a trip, an ABORT and a
CLEAR_FAULTS. A law kept by each part is kept by the whole. -/

namespace Sys2Proof.Machine

/-! ## Step 2 (R9) -/

/-- The sample source by the group's state (R9). -/
theorem Group.obtain_cases (x : Group) :
    x.state.live = true ∧ x.source = .stream ∧ x.obtain = x.take
      ∨ x.state.live = true ∧ x.source = .generator ∧ x.obtain = (x.generate, false)
      ∨ x.state ∈ [GState.parking, .held, .retryWait] ∧ x.obtain = (x.skip, false)
      ∨ x.state ∈ [GState.idle, .armed, .faulted] ∧ x.obtain = (x, false) := by
  cases hs : x.state <;> cases hr : x.source <;> simp [Group.obtain, GState.live, hs, hr]

/-- The playout take (R62). -/
theorem Group.take_cons {x : Group} {e : QEntry} {rest : List QEntry} (h : x.queue = e :: rest) :
    x.take = ({ x with
      queue := rest
      tallies := { x.tallies with played := satAdd x.tallies.played 1 }
      streak := 0
      chans := x.chans.mapIx fun l c => c.takeSlot (e.slots.get l) }, false) := by
  simp [Group.take, h]

/-- The underrun (R63, R64). -/
theorem Group.take_nil {x : Group} (h : x.queue = []) :
    x.take = ({ x with
      streak := countUp x.streak
      ctr := { x.ctr with underruns := satAdd x.ctr.underruns 1 } },
      decide (x.streak < Config.countMax) && decide (x.streak + 1 = x.cfg.starveLimit)) := by
  simp [Group.take, h]

/-- The skip take (R65). -/
theorem Group.skip_cons {x : Group} {e : QEntry} {rest : List QEntry} (h : x.queue = e :: rest) :
    x.skip = { x with queue := rest, tallies := { x.tallies with skipped := satAdd x.tallies.skipped 1 } } := by
  simp [Group.skip, h]

theorem Group.skip_nil {x : Group} (h : x.queue = []) : x.skip = x := by
  simp [Group.skip, h]

theorem Group.obtain_keeps {law : Group → Prop} {x : Group} (take : law x.take.1) (generate : law x.generate)
    (skip : law x.skip) (rest : law x) : law x.obtain.1 := by
  rcases x.obtain_cases with ⟨-, -, h⟩ | ⟨-, -, h⟩ | ⟨-, h⟩ | ⟨-, h⟩ <;> rw [h] <;> assumption

@[simp] theorem Channel.takeSlot_profile (c : Channel) (o : Option Du) : (c.takeSlot o).profile = c.profile := by
  cases o <;> rfl
@[simp] theorem Channel.takeSlot_persist (c : Channel) (o : Option Du) : (c.takeSlot o).persist = c.persist := by
  cases o <;> rfl
@[simp] theorem Channel.takeSlot_slewClamps (c : Channel) (o : Option Du) :
    (c.takeSlot o).slewClamps = c.slewClamps := by cases o <;> rfl
@[simp] theorem Channel.takeSlot_rangeClamps (c : Channel) (o : Option Du) :
    (c.takeSlot o).rangeClamps = c.rangeClamps := by cases o <;> rfl
@[simp] theorem Channel.takeSlot_position (c : Channel) (o : Option Du) :
    (c.takeSlot o).position = c.position := by cases o <;> rfl
@[simp] theorem Channel.takeSlot_force (c : Channel) (o : Option Du) : (c.takeSlot o).force = c.force := by
  cases o <;> rfl
@[simp] theorem Channel.takeSlot_error (c : Channel) (o : Option Du) : (c.takeSlot o).error = c.error := by
  cases o <;> rfl
@[simp] theorem Channel.takeSlot_yPrev (c : Channel) (o : Option Du) : (c.takeSlot o).yPrev = c.yPrev := by
  cases o <;> rfl
@[simp] theorem Channel.takeSlot_d (c : Channel) (o : Option Du) : (c.takeSlot o).d = o.getD c.d := by
  cases o <;> rfl

/-! ## Channels of a group changed in place -/

@[simp] theorem Channel.takeTrim_trim (c : Channel) (o : Option Du) : (c.takeTrim o).trim = o.getD c.trim := by
  cases o <;> rfl

/-- A trim slot moves the trim alone (R50). -/
theorem Channel.takeTrim_frame (c : Channel) (o : Option Du) : c.takeTrim o = { c with trim := (c.takeTrim o).trim } := by
  cases o <;> rfl

/-- A property that the change of one channel keeps holds of every channel afterwards. -/
theorem Group.modChan_keeps {law : Channel → Prop} {x : Group} (l : LaneIx) {f : Channel → Channel}
    (hf : law (x.chans.get l) → law (f (x.chans.get l))) {j : LaneIx} (hx : law (x.chans.get j)) :
    law ((x.modChan l f).chans.get j) := by
  simp only [Group.modChan, Tab.get_modify]
  split
  · next h => subst h; exact hf hx
  · exact hx

/-- Clearing the monitors of the channels that name a set leaves a channel, or clears its monitors (R118). -/
theorem Group.clearNaming_keeps {law : Channel → Prop} {x : Group} (i : SetIx) {l : LaneIx}
    (clear : law (x.chans.get l).clearMonitors) (stay : law (x.chans.get l)) :
    law ((x.clearNaming i).chans.get l) := by
  simp only [Group.clearNaming, Tab.get_map]
  split
  · exact clear
  · exact stay

/-! ## Step 4 (R11) -/

/-- What step 4 does to a channel, by the state (R73). -/
theorem Group.outputs_cases (x : Group) :
    x.state.live = true ∧ x.outputs = x.chans.map (fun c => c.live (combinedFactor x.env x.att))
      ∨ x.state = .parking ∧ x.outputs = x.chans.map (fun c => c.parking x.env)
      ∨ x.state = .held ∧ x.outputs = x.chans.map Channel.hold
      ∨ x.state ∈ [GState.idle, .armed, .retryWait, .faulted] ∧ x.outputs = x.chans.map Channel.rest := by
  cases hs : x.state <;> simp [Group.outputs, GState.live, hs]

/-- A property of a channel that every way of forming its output keeps, step 4 keeps. -/
theorem Group.outputs_keeps {law : Channel → Prop} {x : Group} {l : LaneIx}
    (live : ∀ f : Nat, law ((x.chans.get l).live f)) (parking : ∀ e : Nat, law ((x.chans.get l).parking e))
    (hold : law (x.chans.get l).hold) (rest : law (x.chans.get l).rest) : law (x.outputs.get l) := by
  rcases x.outputs_cases with ⟨-, h⟩ | ⟨-, h⟩ | ⟨-, h⟩ | ⟨-, h⟩ <;> rw [h, Tab.get_map]
  · exact live _
  · exact parking _
  · exact hold
  · exact rest

/-! ## Step 6 -/

/-- What the completions of step 6 can do, each with its cause (R12 to R14, R97, R98, R149). -/
inductive Group.Completion (x : Group) (before : GenRun) (w i : Bool) : Group → Prop
  | stay : x.Completion before w i x
  | burst (h : x.state.running = true) (hg : x.source = .generator)
      (hb : burstDone x.gen before x.genRun = true) : x.Completion before w i x.completeBurst
  | ended (h : x.state.running = true) (hg : x.source = .generator) (he : x.genRun.ended = true) :
      x.Completion before w i { x with state := .fadeOut }
  | risen (h : x.state = .fadeIn) (he : x.env = x.level) : x.Completion before w i { x with state := .run }
  | faded (h : x.state = .fadeOut) (ha : x.arrived = true) : x.Completion before w i x.completeFadeOut
  | parked (h : x.state = .parking) (ha : x.arrived = true) : x.Completion before w i x.enterTarget
  | ticked (h : x.state = .retryWait) (n : Nat) (hn : n = x.retryTimer - 1 ∨ n = x.cfg.retryTime) :
      x.Completion before w i { x with retryTimer := n }
  | resumed (h : x.state = .retryWait) (n : Nat)
      (hp : ({ x with retryTimer := n } : Group).actionPresent w i = false) :
      x.Completion before w i ({ x with retryTimer := n } : Group).resumeRun

theorem Group.tickRetry_completion {x : Group} (before : GenRun) (w i : Bool) (h : x.state = .retryWait) :
    x.Completion before w i (x.tickRetry w i) := by
  unfold Group.tickRetry
  dsimp only
  split
  · unfold Group.judgeExpiry
    split
    · exact .ticked h _ (.inr rfl)
    · next hp => exact .resumed h _ (by simpa using hp)
  · exact .ticked h _ (.inl rfl)

theorem Group.complete_completion (x : Group) (before : GenRun) (w i : Bool) :
    x.Completion before w i (x.complete before w i) := by
  have running (hr : x.state.running = true) : x.Completion before w i
      (if x.source = .generator ∧ burstDone x.gen before x.genRun then x.completeBurst
      else if x.source = .generator ∧ x.genRun.ended = true then { x with state := .fadeOut }
      else if x.state = .fadeIn ∧ x.env = x.level then { x with state := .run } else x) := by
    split
    · next hb => exact .burst hr hb.1 hb.2
    · split
      · next he => exact .ended hr he.1 he.2
      · split
        · next hf => exact .risen hf.1 hf.2
        · exact .stay
  cases hs : x.state with
  | fadeIn => simpa only [Group.complete, hs] using running (by simp [hs, GState.running])
  | run => simpa only [Group.complete, hs] using running (by simp [hs, GState.running])
  | fadeOut =>
    simp only [Group.complete, hs]
    split
    · next ha => exact .faded hs ha
    · exact .stay
  | parking =>
    simp only [Group.complete, hs]
    split
    · next ha => exact .parked hs ha
    · exact .stay
  | retryWait =>
    simp only [Group.complete, hs]
    exact Group.tickRetry_completion before w i hs
  | idle => simpa only [Group.complete, hs] using .stay
  | armed => simpa only [Group.complete, hs] using .stay
  | held => simpa only [Group.complete, hs] using .stay
  | faulted => simpa only [Group.complete, hs] using .stay

theorem Group.enterTarget_keeps {law : Group → Prop} {x : Group} (idle : law x.enterIdle)
    (retryWait : law x.enterRetryWait) (faulted : law x.enterFaulted) (none : law x) : law x.enterTarget := by
  unfold Group.enterTarget
  split <;> assumption

/-- A retry resume is the demotion with the episode ended, then the entry of the resume target (R150). -/
theorem Group.resumeRun_keeps {law : Group → Prop} {x : Group}
    (fadeIn : law ({ x.demote with action := none, target := none } : Group).enterFadeIn)
    (armed : law { x.demote with action := none, target := none, state := .armed, streak := 0 }) :
    law x.resumeRun := by
  unfold Group.resumeRun
  dsimp only
  split
  · exact fadeIn
  · exact armed

/-- Step 6's decimation by case (R179). -/
theorem Group.decimate_cases (x : Group) :
    x.cfg.telemK = 0 ∧ x.decimate = (x, false)
      ∨ x.cfg.telemK ≠ 0 ∧ x.telemCount + 1 = x.cfg.telemK ∧ x.decimate = ({ x with telemCount := 0 }, true)
      ∨ x.cfg.telemK ≠ 0 ∧ x.telemCount + 1 ≠ x.cfg.telemK
        ∧ x.decimate = ({ x with telemCount := x.telemCount + 1 }, false) := by
  unfold Group.decimate
  by_cases h0 : x.cfg.telemK = 0
  · simp [h0]
  · by_cases h1 : x.telemCount + 1 = x.cfg.telemK <;> simp [h0, h1]

theorem Group.countSince_cases (x : Group) :
    x.countSince = { x with sinceFb := countUp x.sinceFb } ∧ x.state.watched = true
      ∨ x.countSince = x ∧ x.state.watched = false := by
  unfold Group.countSince
  cases x.state.watched <;> simp

/-! ## A trip (R139 to R145) -/

/-- The states from which a trip's action may enter the end target (the table of R144). -/
def GState.entersTarget : GState → Bool
  | .idle | .retryWait | .faulted => false
  | _ => true

theorem Group.actBy_keeps {law : Group → Prop} {x : Group} (a : Option Action) (h : x.target ≠ some .idle)
    (retryWait : x.state.entersTarget = true → law x.enterRetryWait)
    (faulted : x.state ≠ .faulted → law x.enterFaulted) (parking : x.state.live = true → law x.enterParking)
    (held : x.state.live = true ∨ x.state = .parking → law x.enterHeld) (none : law x) : law (x.actBy a) := by
  have target (ht : x.state.entersTarget = true) : law x.enterTarget := by
    unfold Group.enterTarget
    split
    · contradiction
    · exact retryWait ht
    · exact faulted fun hf => by simp [hf, GState.entersTarget] at ht
    · exact none
  unfold Group.actBy
  split <;> simp_all [GState.live, GState.entersTarget]

/-- What the parts of a trip keep, a trip keeps: it latches its kind, records itself, opens or moves the episode,
and may enter RETRY_WAIT, FAULTED, PARKING or HELD from the states that R144 names. -/
theorem Group.trip_keeps {law : Group → Prop}
    (latch : ∀ (x : Group) (k : Kind) (c : FaultClass), law x → law (x.latch k c))
    (record : ∀ (x : Group) (ev : MonEvent) (r : Bool), law x → law (x.recordTrip ev r))
    (episode : ∀ (x : Group) (r : Resume) (a : Option Action) (t : Option EndTarget), law x →
      law { x with resume := r, action := a, target := t })
    (retryWait : ∀ x : Group, x.state.entersTarget = true → law x → law x.enterRetryWait)
    (faulted : ∀ x : Group, x.state ≠ .faulted → law x → law x.enterFaulted)
    (parking : ∀ x : Group, x.state.live = true → law x → law x.enterParking)
    (held : ∀ x : Group, x.state.live = true ∨ x.state = .parking → law x → law x.enterHeld)
    {x : Group} (ev : MonEvent) (hx : law x) : law (x.trip ev) := by
  have apply (y : Group) (a : Option Action) (r : Bool) (ht : y.target ≠ some .idle) (hy : law y) :
      law (y.applyAction a r) := by
    have hset : law { y with action := a } := episode y y.resume a y.target hy
    unfold Group.applyAction
    split
    · exact hy
    · by_cases hs : strength y.action < strength a
      · simp only [hs, decide_true, if_true]
        split
        · next hw => exact faulted _ (fun hf => by cases hw.symm.trans hf) hset
        · exact Group.actBy_keeps a ht (fun h => retryWait _ h hset) (fun h => faulted _ h hset)
            (fun h => parking _ h hset) (fun h => held _ h hset) hset
      · simp only [hs, decide_false, Bool.false_eq_true, if_false]
        split
        · next hw => exact faulted _ (fun hf => by cases hw.symm.trans hf) hy
        · exact hy
  have opened (y : Group) (t : Option EndTarget) (hy : law y) : law { y.openEpisode with target := t } := by
    unfold Group.openEpisode
    split
    · exact episode y _ y.action t hy
    · exact episode y y.resume y.action t hy
  rcases x.trip_cases ev with h | h | h <;> rw [h]
  · exact hx
  · exact latch x _ _ hx
  · exact apply _ _ _ (by simp [targetAfter_ne_idle]) (opened _ _ (record x ev _ hx))

/-- What the parts of the interlock trip keep, it keeps (R148). -/
theorem Group.interlockTrip_keeps {law : Group → Prop}
    (record : ∀ (x : Group) (ev : MonEvent) (r : Bool), law x → law (x.recordTrip ev r))
    (episode : ∀ (x : Group) (r : Resume) (a : Option Action) (t : Option EndTarget), law x →
      law { x with resume := r, action := a, target := t })
    (faulted : ∀ x : Group, law x → law x.enterFaulted) {x : Group} (hx : law x) : law x.interlockTrip := by
  have opened (y : Group) (a : Option Action) (t : Option EndTarget) (hy : law y) :
      law { y.openEpisode with action := a, target := t } := by
    unfold Group.openEpisode
    split
    · exact episode y _ a t hy
    · exact episode y y.resume a t hy
  unfold Group.interlockTrip
  dsimp only
  split
  · exact hx
  · split
    · exact opened _ _ _ (record x _ _ hx)
    · exact faulted _ (opened _ _ _ (record x _ _ hx))

/-! ## ABORT, STOP, and CLEAR_FAULTS -/

/-- What ABORT leaves, by the state (R25). -/
theorem Group.abortRun_cases {x y : Group} (h : x.abortRun = some y) :
    x.state.live = true ∧ y = { x.enterParking with action := some .park, target := some .idle }
      ∨ x.state = .armed ∧ y = x.enterIdle
      ∨ x.state = .retryWait ∧ y = { x.enterFaulted with target := some .faulted }
      ∨ x.state = .parking ∧ y = x := by
  unfold Group.abortRun at h
  split at h <;> simp_all [GState.live]

theorem Group.stopRun_cases (x : Group) :
    x.state.running = true ∧ x.stopRun = { x with
        state := .fadeOut
        genRun := { x.genRun with ended := x.genRun.ended || decide (x.source = .generator) } }
      ∨ x.state.running = false ∧ x.stopRun = x := by
  unfold Group.stopRun
  cases hs : x.state.running
  · simp
  · refine .inl ⟨rfl, ?_⟩
    by_cases hg : x.source = .generator <;> simp [hg]

theorem Group.clearFaults_keeps {law : Group → Prop} (w i : Bool)
    (remove : ∀ x : Group, law x → law (x.removeAbsent w i)) (idle : ∀ x : Group, law x → law x.enterIdle)
    (parking : ∀ x : Group, law x →
      law { x.enterParking with action := some .park, target := some .idle })
    {x : Group} (hx : law x) : law (x.clearFaults w i) := by
  have hr := remove x hx
  unfold Group.clearFaults Group.release
  split
  · exact hr
  · split
    · exact idle _ hr
    · exact parking _ hr
    · exact hr

/-! ## An arrival at the queue (R55 to R59) -/

/-- What the parts of an arrival keep, an arrival keeps. -/
theorem Group.arrive_keeps {law : Group → Prop}
    (insert : ∀ (x : Group) (es : List QEntry), law x → law (x.insert es))
    (overflow : ∀ x : Group, law x →
      law { x with ctr := { x.ctr with overflowDrops := satAdd x.ctr.overflowDrops 1 } })
    (fillers : ∀ (x : Group) (n : Nat), law x →
      law { x with ctr := { x.ctr with fillerEntries := satAdd x.ctr.fillerEntries n } })
    (gap : ∀ (x : Group) (n : Nat), law x → law (x.countGap n))
    (break_ : ∀ x : Group, law x → law x.countBreak) (stale : ∀ x : Group, law x → law x.countStale)
    (expect : ∀ (x : Group) (q : Seq), law x → law (x.expectAfter q))
    {x : Group} (seq : Seq) (slots : Tab 6 (Option Du)) (hx : law x) : law (x.arrive seq slots).1 := by
  have frame (y : Group) (e : QEntry) (hy : law y) : law (y.insertFrame e) := by
    unfold Group.insertFrame
    split
    · exact insert y _ hy
    · exact overflow y hy
  unfold Group.arrive
  dsimp only
  split
  · exact expect _ _ (frame _ _ hx)
  · exact expect _ _ (frame _ _ hx)
  · exact expect _ _ (frame _ _ (fillers _ _ (insert _ _ (gap _ _ hx))))
  · exact expect _ _ (frame _ _ (break_ _ (gap _ _ hx)))
  · exact stale _ hx

end Sys2Proof.Machine
end

section
/-! The records that requests write: what WRITE_GROUP_CONFIG, GEN_CONFIG and WRITE_LIMIT_SET store lies within the
ranges of R28, R91 and R117. -/

namespace Sys2Proof.Machine

theorem within_bounds {lo hi : Nat} (n : Nat) (h : lo ≤ hi) : lo ≤ within lo hi n ∧ within lo hi n ≤ hi := by
  unfold within
  omega

theorem natAt24_le (bs : List Byte) (i : Nat) : natAt24 bs i ≤ 16777215 := by
  have h1 := natAt8_le bs i
  have h2 := natAt16_le bs (i + 1)
  unfold natAt24
  omega

/-- No treatment is stored as RETRY with HOLD (R29, R118). -/
theorem storedAction_law (m : Mode) (a : Action) : ¬ (m = .retry ∧ storedAction m a = .hold) := by
  cases m <;> cases a <;> decide

theorem treatmentAt_law {bs : List Byte} {i : Nat} {t : Treatment} (h : treatmentAt bs i = some t) : t.Law := by
  unfold treatmentAt at h
  split at h
  · next m a _ _ =>
    cases h
    exact storedAction_law m a
  · cases h

theorem groupConfigOf_law {bs : List Byte} {c : GroupConfig} (h : groupConfigOf bs = some c) : c.Law := by
  unfold groupConfigOf at h
  split at h
  · next hst hsb hfl hcp hwd _ =>
    cases h
    exact ⟨within_bounds _ (by decide), within_bounds _ (by decide), (within_bounds _ (by decide)).2,
      within_bounds _ (by decide), (within_bounds _ (by decide)).2, within_bounds _ (by decide),
      natAt8_le _ _, within_bounds _ (by decide), (within_bounds _ (by decide)).2,
      treatmentAt_law hst, treatmentAt_law hsb, treatmentAt_law hfl, treatmentAt_law hcp, treatmentAt_law hwd,
      (within_bounds _ (by decide)).2, within_bounds _ (by decide), (within_bounds _ (by decide)).2,
      natAt8_le _ _⟩
  · cases h

theorem genConfigOf_law {bs : List Byte} {c : GenConfig} (h : genConfigOf bs = some c) : c.Law := by
  unfold genConfigOf at h
  split at h
  · cases h
  · next p _ =>
    split at h
    · cases h
      have hp := within_bounds (lo := if p = .ramp then 2 else 1) (hi := 4096) (natAt16 bs 4) (by split <;> decide)
      refine ⟨?_, ?_, hp.2, ?_, ?_, ?_⟩
      · dsimp only
        split
        · decide
        · next hl => exact fun h => hl (BitVec.eq_of_toInt_eq (h.trans (by decide)))
      · refine Nat.le_trans ?_ hp.1
        split <;> decide
      · intro hr
        simpa [show p = .ramp from hr] using hp.1
      · dsimp only
        split
        · decide
        · next hs => exact hs
      · intro n hn
        dsimp only at hn
        split at hn
        · cases hn
        · next h0 =>
          cases hn
          exact ⟨Nat.one_le_iff_ne_zero.mpr h0, natAt24_le _ _⟩
    · cases h

theorem limitMonAt_law {bs : List Byte} {i : Nat} {m : LimitMon} (h : limitMonAt bs i = some m) :
    1 ≤ m.deglitch ∧ m.deglitch ≤ 255 ∧ ¬ (m.mode = .retry ∧ m.action = .hold) := by
  unfold limitMonAt at h
  split at h
  · cases h
  · next t ht =>
    cases h
    exact ⟨Nat.le_max_left _ _, Nat.max_le.mpr ⟨by decide, natAt8_le _ _⟩, treatmentAt_law ht⟩

theorem nonNegative_le (w : Du) : nonNegative w ≤ 32767 := by
  have := BitVec.toInt_lt (x := w)
  unfold nonNegative
  omega

theorem limitSetOf_law {bs : List Byte} {ls : LimitSet} (h : limitSetOf bs = some ls) : ls.Law := by
  unfold limitSetOf at h
  split at h
  · next p f e hp hf he =>
    split at h
    · cases h
    · next hlt =>
      cases h
      refine ⟨by simpa using hlt, nonNegative_le _, nonNegative_le _, ?_⟩
      simp only [List.mem_cons, List.not_mem_nil, or_false, forall_eq_or_imp, forall_eq]
      exact ⟨limitMonAt_law hp, limitMonAt_law hf, limitMonAt_law he⟩
  · cases h

end Sys2Proof.Machine
end

section
/-! The group's scale (R10, R26, R88): every move keeps E, Lv and A within their ranges. -/

namespace Sys2Proof.Machine

/-- The scale law reads four fields of a group alone. -/
theorem Group.ScaleLaw.of_same {x y : Group} (hx : x.ScaleLaw) (he : y.env ≤ 4096) (hl : y.level = x.level)
    (hc : y.cfg = x.cfg) (ha : y.att = x.att) : y.ScaleLaw := by
  obtain ⟨-, hl4, hf, ha4⟩ := hx
  exact ⟨he, hl ▸ hl4, by rw [hc, ha]; exact hf, by rw [ha]; exact ha4⟩

theorem Group.take_scale (x : Group) : x.take.1.env = x.env ∧ x.take.1.level = x.level
    ∧ x.take.1.cfg = x.cfg ∧ x.take.1.att = x.att := by
  rcases hq : x.queue with _ | ⟨e, rest⟩
  · rw [Group.take_nil hq]; exact ⟨rfl, rfl, rfl, rfl⟩
  · rw [Group.take_cons hq]; exact ⟨rfl, rfl, rfl, rfl⟩

theorem Group.skip_scale (x : Group) : x.skip.env = x.env ∧ x.skip.level = x.level ∧ x.skip.cfg = x.cfg
    ∧ x.skip.att = x.att := by
  rcases hq : x.queue with _ | ⟨e, rest⟩
  · rw [Group.skip_nil hq]; exact ⟨rfl, rfl, rfl, rfl⟩
  · rw [Group.skip_cons hq]; exact ⟨rfl, rfl, rfl, rfl⟩

/-- E stays within full scale at step 3, when Lv does (R10). -/
theorem Group.nextEnv_le {x : Group} (he : x.env ≤ 4096) (hl : x.level ≤ 4096) : x.nextEnv ≤ 4096 := by
  unfold Group.nextEnv
  repeat' split
  all_goals omega

/-- A stays between its floor and full scale at the flow monitor (R88). -/
theorem flowAdjust_within {c : GroupConfig} {a : Nat} (d : Nat) (hf : c.attFloor ≤ a) (ha : a ≤ 4096) :
    c.attFloor ≤ flowAdjust c d a ∧ flowAdjust c d a ≤ 4096 := by
  unfold flowAdjust Config.fullScale
  split
  · omega
  · split
    · omega
    · split <;> omega

theorem Group.nextAtt_within {x : Group} (hf : x.cfg.attFloor ≤ x.att) (ha : x.att ≤ 4096) :
    x.cfg.attFloor ≤ x.nextAtt ∧ x.nextAtt ≤ 4096 := by
  unfold Group.nextAtt
  split
  · exact flowAdjust_within _ hf ha
  · exact ⟨hf, ha⟩

theorem Group.enterRetryWait_scale (x : Group) (hx : x.ScaleLaw) : x.enterRetryWait.ScaleLaw :=
  hx.of_same (Nat.zero_le _) rfl rfl rfl

theorem Group.enterFaulted_scale (x : Group) (hx : x.ScaleLaw) : x.enterFaulted.ScaleLaw :=
  hx.of_same (Nat.zero_le _) rfl rfl rfl

theorem Group.enterIdle_scale (x : Group) (hx : x.ScaleLaw) : x.enterIdle.ScaleLaw :=
  hx.of_same (Nat.zero_le _) rfl rfl rfl

theorem Group.enterParking_scale (x : Group) (hx : x.ScaleLaw) : x.enterParking.ScaleLaw :=
  hx.of_same (Nat.le_refl _) rfl rfl rfl

theorem Group.Completion.keeps_scale {x y : Group} {r : GenRun} {w i : Bool} (h : x.Completion r w i y)
    (hx : x.ScaleLaw) : y.ScaleLaw := by
  cases h with
  | parked h ha =>
    exact Group.enterTarget_keeps (x.enterIdle_scale hx) (x.enterRetryWait_scale hx) (x.enterFaulted_scale hx) hx
  | resumed h n hp => exact Group.resumeRun_keeps hx hx
  | _ => exact hx

/-- Every move keeps the scale law. -/
theorem Group.Move.keeps_scale {x y : Group} (h : x.Move y) (hx : x.ScaleLaw) : y.ScaleLaw := by
  obtain ⟨he, hl, hf, ha⟩ := id hx
  cases h with
  | fresh => decide
  | obtain =>
    obtain ⟨te, tl, tc, ta⟩ := x.take_scale
    obtain ⟨se, sl, sc, sa⟩ := x.skip_scale
    exact Group.obtain_keeps (hx.of_same (te ▸ he) tl tc ta) hx (hx.of_same (se ▸ he) sl sc sa) hx
  | stepEnv => exact hx.of_same (Group.nextEnv_le he hl) rfl rfl rfl
  | condition => exact ⟨he, hl, Group.nextAtt_within hf ha⟩
  | countSince => rcases x.countSince_cases with ⟨h, -⟩ | ⟨h, -⟩ <;> rw [h] <;> exact hx
  | complete r w i => exact (x.complete_completion r w i).keeps_scale hx
  | decimate => rcases x.decimate_cases with ⟨-, h⟩ | ⟨-, -, h⟩ | ⟨-, -, h⟩ <;> rw [h] <;> exact hx
  | trip ev hev =>
    exact Group.trip_keeps (law := Group.ScaleLaw) (fun _ _ _ h => h) (fun _ _ _ h => h) (fun _ _ _ _ h => h)
      (fun z _ => z.enterRetryWait_scale) (fun z _ => z.enterFaulted_scale) (fun z _ => z.enterParking_scale)
      (fun _ _ h => h) ev hx
  | interlockTrip =>
    exact Group.interlockTrip_keeps (law := Group.ScaleLaw) (fun _ _ _ h => h) (fun _ _ _ _ h => h)
      enterFaulted_scale hx
  | arrive i seq slots h =>
    exact Group.arrive_keeps (law := Group.ScaleLaw) (fun _ _ h => h) (fun _ h => h) (fun _ _ h => h)
      (fun _ _ h => h) (fun _ h => h) (fun _ h => h) (fun _ _ h => h) seq slots hx
  | configure ops c hs hc =>
    obtain ⟨-, -, -, -, -, -, -, -, -, -, -, -, -, -, -, -, hfloor, -⟩ := groupConfigOf_law hc
    exact ⟨he, hl, hfloor, Nat.le_refl _⟩
  | disarm hs => exact x.enterIdle_scale hx
  | stop => rcases x.stopRun_cases with ⟨-, h⟩ | ⟨-, h⟩ <;> rw [h] <;> exact hx
  | abort y h =>
    rcases Group.abortRun_cases h with ⟨-, rfl⟩ | ⟨-, rfl⟩ | ⟨-, rfl⟩ | ⟨-, rfl⟩
    · exact x.enterParking_scale hx
    · exact x.enterIdle_scale hx
    · exact x.enterFaulted_scale hx
    · exact hx
  | level v hv => exact ⟨he, hv, hf, ha⟩
  | clearFaults w i =>
    exact Group.clearFaults_keeps (law := Group.ScaleLaw) w i (fun _ h => h) enterIdle_scale enterParking_scale hx
  | _ => exact hx

theorem Group.arm_scale (x : Group) (b : Option MapIx) (hx : x.ScaleLaw) : (x.arm b).ScaleLaw := by
  obtain ⟨-, hl, hf, ha⟩ := hx
  exact ⟨Nat.zero_le _, hl, Nat.le_trans hf ha, Nat.le_refl _⟩

/-- Settles O6: every move keeps the scale law, and so does ARM. -/
theorem scaleLawIsKept : Obligations.ScaleLawIsKept :=
  keptByEveryStep_of_event (fun _ _ h => h) fun _ _ he hs =>
    he.keepsEachGroup (fun _ _ hm => hm.keeps_scale) (fun x b _ => x.arm_scale b) hs

end Sys2Proof.Machine
end

section
/-! What an event can do to a port and to the device's other blocks: the ports move by chains of the moves of
`PortState.Move`, and the limit sets, the alert mask and the servo link's counters change in the ways stated
here alone. -/

namespace Sys2Proof.Machine

/-! ## The moves of a port -/

/-- What a single cause can do to a port. -/
inductive PortState.Move (x : PortState) : PortState → Prop
  | fresh : x.Move defaultPort
  | land : x.Move x.land
  | count (f : PortState → PortState) (h : f ∈ [PortState.countReceived, PortState.countCheckError,
      PortState.countMalformed, PortState.countAdmitRefused, PortState.countUnknownTag,
      PortState.countExcess]) : x.Move (f x)
  | dispatch (bs : List Byte) : x.Move (x.dispatch bs)
  | dequeue : x.Move { x with requests := x.requests.tail }
  | respond (r : QResponse) : x.Move (x.pushResponse r)
  | echo (e : UpFrame) : x.Move (x.pushEcho e)
  | record (g : GroupIx) (f : UpFrame) : x.Move (x.placeRecord g f)
  | finish (f : Sending) (h : x.sending = some f) : x.Move (x.finish f).choose
  | finishLand (f : Sending) (h : x.sending = some f) : x.Move (x.finish f).land
  | policy (a : Admission) (n : Nat) (h : n ≤ 0xFEF) :
      x.Move { x with policy := { policy := a, defaultTag := BitVec.ofNat 12 n } }
  | actions (i : Fin 7) (a : ClassAction) : x.Move { x with actions := x.actions.set i a }
  | clearCounters : x.Move { x with ctr := defaultPortCounters }

/-- A chain of moves of a port. -/
abbrev PortState.Moves : PortState → PortState → Prop := Relation.ReflTransGen PortState.Move

/-- What every move of a port keeps, a chain of them keeps. -/
theorem PortState.Moves.keeps {law : PortState → Prop} (hk : ∀ x y : PortState, x.Move y → law x → law y)
    {x y : PortState} (h : x.Moves y) (hx : law x) : law y := by
  induction h with
  | refl => exact hx
  | tail _ hm ih => exact hk _ _ hm ih

/-- Both ports of one state move to those of another. -/
abbrev State.PortsMove (s t : State) : Prop := ∀ p : Port, (s.port p).Moves (t.port p)

theorem State.PortsMove.trans {s t u : State} (h : s.PortsMove t) (k : t.PortsMove u) : s.PortsMove u :=
  fun p => (h p).trans (k p)

theorem State.PortsMove.of_ports {s t : State} (h : ∀ p : Port, t.port p = s.port p) : s.PortsMove t := by
  intro p
  rw [h p]

theorem State.PortsMove.modPort {s : State} {p : Port} {f : PortState → PortState}
    (h : (s.port p).Moves (f (s.port p))) : s.PortsMove (s.modPort p f) := by
  intro r
  rcases eq_or_eq_otherPort p r with rfl | rfl
  · rwa [State.port_modPort]
  · rw [State.port_modPort_other]

theorem State.PortsMove.noteExcess (s : State) (p : Port) (e : MapEntry) (bs : List Byte) :
    s.PortsMove (s.noteExcess p e bs) := by
  unfold State.noteExcess
  split
  · exact .modPort (.single (.count _ (by simp)))
  · exact .of_ports fun _ => rfl

@[simp] theorem State.port_deliver (s : State) (g : GroupIx) (evs : List MonEvent) (p : Port) :
    (s.deliver g evs).port p = s.port p := by simp [State.deliver]

@[simp] theorem State.port_driveArrival (s : State) (g : GroupIx) (seq : Seq) (slots : Tab 6 (Option Du))
    (p : Port) : (s.driveArrival g seq slots).port p = s.port p := by
  unfold State.driveArrival
  dsimp only
  split <;> simp

theorem State.FrameFate.portsMove {s t : State} {p : Port} (h : s.FrameFate p t) : s.PortsMove t := by
  cases h with
  | counted f hf => exact .modPort (.single (.count f (by simp only [List.mem_cons] at hf ⊢; tauto)))
  | dispatched bs => exact .modPort (.single (.dispatch bs))
  | unbound g => exact .of_ports (by simp)
  | refused g => exact .of_ports (by simp)
  | queued i bs seq slots h => exact .trans (.noteExcess s p (s.map.get i) bs) (.of_ports (by simp))
  | staleTrim g => exact .of_ports (by simp)
  | trimmed i bs seq slots hr hv =>
    refine .trans (.noteExcess s p (s.map.get i) bs) (.of_ports fun r => ?_)
    cases r <;> rfl

theorem State.PortsMove.playout (s : State) (g : GroupIx) : s.PortsMove (s.playout g) := by
  intro p
  by_cases h : (s.group g).telemetryDue s.wdExpired s.interlockOpen = false
      ∨ p ≠ (s.settledGroup g).cfg.telemPort
  · rw [State.playout_port_else s g p h]
  · simp only [not_or, Bool.not_eq_false, not_not] at h
    obtain ⟨hd, rfl⟩ := h
    rw [State.playout_port_due s g hd]
    exact .single (.record _ _)

theorem State.port_feedback (s : State) (bs : List Byte) (p : Port) : (s.feedback bs).port p = s.port p := by
  cases hj : s.judgeFeedback bs with
  | checkError => rw [State.feedback_checkError hj]; cases p <;> rfl
  | malformed => rw [State.feedback_malformed hj]; cases p <;> rfl
  | stale g => rw [State.feedback_stale hj, State.port_modGroup]; cases p <;> rfl
  | accepted g =>
    rw [State.feedback_accepted hj, State.port_deliver, State.port_setGroup]
    cases p <;> rfl

theorem State.port_tick (s : State) (u : TickUnit) (p : Port) : (s.tick u).port p = s.port p := by
  rcases s.tick_cases u with ⟨h, -⟩ | ⟨h, -⟩ | ⟨h, -⟩ <;> rw [h] <;> cases p <;> rfl

theorem State.PortsMove.sendComplete (s : State) (p : Port) (levels : Straps) :
    s.PortsMove (s.sendComplete p levels) := by
  rcases hs : (s.port p).sending with _ | f
  · rw [State.sendComplete_idle levels hs]
    exact .of_ports fun _ => rfl
  · rcases hl : f.landing with _ | k
    · rw [State.sendComplete_next levels hs hl]
      have hm : s.PortsMove (s.modPort p fun x => (x.finish f).choose) := .modPort (.single (.finish f hs))
      exact hm.trans (.of_ports fun r => by cases r <;> rfl)
    · rw [State.sendComplete_land levels hs hl]
      intro r
      cases p <;> cases r
      · exact .single (.finishLand f hs)
      · exact .single .land
      · exact .single .land
      · exact .single (.finishLand f hs)

theorem State.Effect.portsMove {s t : State} {p : Port} (h : s.Effect p t) : s.PortsMove t := by
  cases h with
  | policy r a n hn => exact .modPort (.single (.policy a n hn))
  | actions r c n a hl ha => exact .modPort (.single (.actions _ a))
  | portCounters r => exact .modPort (.single .clearCounters)
  | _ => exact .of_ports fun r => by cases r <;> rfl

/-- A request carried out moves the ports as its effect does, with its response and its echo. -/
theorem State.PortsMove.carryOut (s : State) (p : Port) (q : Request) (v : Verdict)
    (h : (s.dequeue p).PortsMove (v.effect (s.dequeue p))) : s.PortsMove (s.carryOut p q v) := by
  intro r
  rcases eq_or_eq_otherPort p r with rfl | rfl
  · have hd := h r
    rw [State.port_dequeue] at hd
    rw [State.port_carryOut]
    exact ((Relation.ReflTransGen.single .dequeue).trans hd).tail (.respond _)
  · have hd := h (otherPort p)
    rw [State.port_dequeue_other] at hd
    rw [State.port_carryOut_other]
    split
    · exact hd.tail (.echo _)
    · exact hd

/-- What every event does to the ports. -/
theorem State.Event.portsMove {s t : State} (h : s.Event t) : s.PortsMove t := by
  cases h with
  | idle => exact .of_ports fun _ => rfl
  | powerOn pins => exact fun p => by cases p <;> exact .single .fresh
  | frame p bs hr =>
    exact .trans (.modPort (.single (.count _ (by simp))))
      (State.ingress_fate (s.modPort p PortState.countReceived) p bs).portsMove
  | refused p q st hn => exact .carryOut s p q _ (.of_ports fun _ => rfl)
  | taken k p q a pl u hn hk hv => exact .carryOut s p q _ (judge_effect k hv).portsMove
  | playout g => exact .playout s g
  | feedback bs => exact .of_ports (s.port_feedback bs)
  | tick u => exact .of_ports (s.port_tick u)
  | opening ho => exact .of_ports fun p => by cases p <;> rfl
  | closing => exact .of_ports fun p => by cases p <;> rfl
  | sendComplete p levels => exact .sendComplete s p levels

/-! ## The device's other blocks -/

/-- A frame leaves every block but the ports, the groups, the map and the lines. -/
theorem State.FrameFate.frame {s t : State} {p : Port} (h : s.FrameFate p t) :
    t = { s with portA := t.portA, portB := t.portB, groups := t.groups, map := t.map,
                 faultLine := t.faultLine, alertLine := t.alertLine } := by
  have hm (r : Port) (f : PortState → PortState) : s.modPort r f =
      { s with portA := (s.modPort r f).portA, portB := (s.modPort r f).portB } := by cases r <;> rfl
  have hx (e : MapEntry) (bs : List Byte) : s.noteExcess p e bs =
      { s with portA := (s.noteExcess p e bs).portA, portB := (s.noteExcess p e bs).portB } := by
    unfold State.noteExcess
    split
    · exact hm _ _
    · rfl
  cases h with
  | counted f hf => rw [hm]
  | dispatched bs => rw [hm]
  | queued i bs seq slots h =>
    rw [hx]
    unfold State.driveArrival
    dsimp only
    split <;> rfl
  | trimmed i bs seq slots hr hv => rw [hx]; rfl
  | _ => rfl

/-- A feedback frame leaves every block but the servo link's counters, the groups and the lines. -/
theorem State.feedback_frame (s : State) (bs : List Byte) :
    s.feedback bs = { s with servo := (s.feedback bs).servo, groups := (s.feedback bs).groups,
                             faultLine := (s.feedback bs).faultLine, alertLine := (s.feedback bs).alertLine } := by
  cases hj : s.judgeFeedback bs with
  | checkError => rw [State.feedback_checkError hj]; rfl
  | malformed => rw [State.feedback_malformed hj]; rfl
  | stale g => rw [State.feedback_stale hj]; rfl
  | accepted g => rw [State.feedback_accepted hj]; rfl

/-- A tick leaves every block but the watchdog, the groups and the lines. -/
theorem State.tick_frame (s : State) (u : TickUnit) :
    s.tick u = { s with watchdog := (s.tick u).watchdog, groups := (s.tick u).groups,
                        faultLine := (s.tick u).faultLine, alertLine := (s.tick u).alertLine } := by
  rcases s.tick_cases u with ⟨h, -⟩ | ⟨h, -⟩ | ⟨h, -⟩ <;> rw [h]
  rfl

/-- A sending that completes leaves every block but the pins and the ports, or lands a part reset. -/
theorem State.sendComplete_cases (s : State) (p : Port) (levels : Straps) :
    s.sendComplete p levels = { s with
        pins := (s.sendComplete p levels).pins, portA := (s.sendComplete p levels).portA,
        portB := (s.sendComplete p levels).portB }
      ∨ ∃ (u : State) (k : ResetKind), s.sendComplete p levels = u.land k := by
  rcases hs : (s.port p).sending with _ | f
  · exact .inl (by rw [State.sendComplete_idle levels hs])
  · rcases hl : f.landing with _ | k
    · refine .inl ?_
      rw [State.sendComplete_next levels hs hl]
      cases p <;> rfl
    · exact .inr ⟨_, k, State.sendComplete_land levels hs hl⟩

/-- A limit set after an event: as it was, at its power-on values, or as a WRITE_LIMIT_SET stored it (R117, R118). -/
theorem State.Event.limitSet {s t : State} (h : s.Event t) (i : SetIx) :
    t.limitSets.get i = s.limitSets.get i ∨ t.limitSets.get i = defaultLimitSet
      ∨ ∃ ops : List Byte, limitSetOf ops = some (t.limitSets.get i) := by
  cases h with
  | powerOn pins => exact .inr (.inl (Tab.get_fill _ _))
  | frame p bs hr =>
    rw [(State.ingress_fate (s.modPort p PortState.countReceived) p bs).frame]
    exact .inl (by simp)
  | refused p q st hn => exact .inl (by simp)
  | taken k p q a pl u hn hk hv =>
    rw [State.carryOut_take_limitSets]
    cases judge_effect k hv with
    | limitSet j ops ls hls =>
      by_cases hj : j = i
      · subst hj
        exact .inr (.inr ⟨ops, by simpa using hls⟩)
      · exact .inl (by simp [hj])
    | policy r a n hn => exact .inl (by simp)
    | actions r c n a hl ha => exact .inl (by simp)
    | portCounters r => exact .inl (by simp)
    | _ => exact .inl (by simp)
  | playout g => exact .inl (by simp)
  | feedback bs => rw [State.feedback_frame]; exact .inl rfl
  | tick u => rw [State.tick_frame]; exact .inl rfl
  | sendComplete p levels =>
    rcases s.sendComplete_cases p levels with h | ⟨u, k, h⟩
    · rw [h]; exact .inl rfl
    · rw [h]; exact .inr (.inl (Tab.get_fill _ _))
  | _ => exact .inl rfl

theorem kindSetOk_default : kindSetOk defaultAlertMask = true := by decide

/-- The alert mask after an event: as it was, or a word that SET_ALERT_MASK takes (R156, R175). -/
theorem State.Event.alertMask {s t : State} (h : s.Event t) :
    t.alertMask = s.alertMask ∨ kindSetOk t.alertMask = true := by
  cases h with
  | powerOn pins => exact .inr kindSetOk_default
  | frame p bs hr =>
    rw [(State.ingress_fate (s.modPort p PortState.countReceived) p bs).frame]
    exact .inl (by simp)
  | refused p q st hn => exact .inl (by simp)
  | taken k p q a pl u hn hk hv =>
    rw [State.carryOut_take_alertMask]
    cases judge_effect k hv with
    | alertMask m hm => exact .inr hm
    | _ => exact .inl (by simp)
  | playout g => rw [State.playout_frame]; exact .inl rfl
  | feedback bs => rw [State.feedback_frame]; exact .inl rfl
  | tick u => rw [State.tick_frame]; exact .inl rfl
  | sendComplete p levels =>
    rcases s.sendComplete_cases p levels with h | ⟨u, k, h⟩
    · rw [h]; exact .inl rfl
    · rw [h]; exact .inr kindSetOk_default
  | _ => exact .inl rfl

end Sys2Proof.Machine
end

section
/-! The records that requests write (R28, R36, R70, R91, R96, R117, R175): every move of a group and every event of
the device keeps them within their ranges. -/

namespace Sys2Proof.Machine

/-! ## The noise register (R96) and the generated count (R97) -/

theorem noiseNext_ne_zero {r : BitVec 16} (h : r ≠ 0) : noiseNext r ≠ 0 := by
  unfold noiseNext
  split
  · intro hz
    have h15 : ((r >>> 1) ^^^ 0xB400#16).getLsbD 15 = true := by
      simp
    rw [hz] at h15
    simp at h15
  · next h0 =>
    intro hz
    have hr : r.toNat / 2 = 0 := by simpa [Nat.shiftRight_one] using congrArg BitVec.toNat hz
    have hodd : r.toNat % 2 ≠ 1 := by simpa [BitVec.getLsbD, Nat.testBit_zero] using h0
    exact h (BitVec.eq_of_toNat_eq (by simpa using (by omega : r.toNat = 0)))

theorem genAdvance_law (c : GenConfig) (b : Bool) {r : GenRun} (h : r.Law) : (genAdvance c b r).Law := by
  obtain ⟨hn, hc⟩ := h
  constructor
  · unfold genAdvance
    dsimp only
    split
    · exact noiseNext_ne_zero hn
    · exact hn
  · unfold genAdvance Config.genCountMax
    dsimp only
    split <;> omega

/-! ## A group's records -/

/-- A group's configuration, generator and channel profiles within their ranges: the record law's part of a group. -/
abbrev Group.RecordLaw (x : Group) : Prop :=
  x.cfg.Law ∧ x.gen.Law ∧ x.genRun.Law ∧ ∀ l : LaneIx, (x.chans.get l).profile.Law

theorem Group.RecordLaw.of_same {x y : Group} (hx : x.RecordLaw) (hc : y.cfg = x.cfg) (hg : y.gen = x.gen)
    (hr : y.genRun.Law) (hp : ∀ l : LaneIx, (y.chans.get l).profile = (x.chans.get l).profile) :
    y.RecordLaw := by
  obtain ⟨kc, kg, -, kp⟩ := hx
  exact ⟨hc ▸ kc, hg ▸ kg, hr, fun l => by rw [hp]; exact kp l⟩

/-- The same run's values carry the record law over. -/
theorem Group.RecordLaw.of_sameRun {x y : Group} (h : x.SameRun y) (hx : x.RecordLaw) : y.RecordLaw := by
  obtain ⟨-, -, -, -, -, -, -, -, -, -, hc, hg, hr, -, -, -, -, hp⟩ := h
  exact hx.of_same hc hg (hr ▸ hx.2.2.1) fun l => (hp l).1

theorem Group.outputs_profile (x : Group) (l : LaneIx) : (x.outputs.get l).profile = (x.chans.get l).profile :=
  Group.outputs_keeps (law := fun c => c.profile = (x.chans.get l).profile) (fun _ => rfl) (fun _ => rfl) rfl rfl

theorem Group.obtain_record {x : Group} (hx : x.RecordLaw) : x.obtain.1.RecordLaw := by
  refine Group.obtain_keeps ?_ ?_ ?_ hx
  · rcases hq : x.queue with _ | ⟨e, rest⟩
    · rw [Group.take_nil hq]; exact hx
    · rw [Group.take_cons hq]; exact hx.of_same rfl rfl hx.2.2.1 (by simp)
  · exact hx.of_same rfl rfl (genAdvance_law _ _ hx.2.2.1) (by simp [Group.generate])
  · rcases hq : x.queue with _ | ⟨e, rest⟩
    · rw [Group.skip_nil hq]; exact hx
    · rw [Group.skip_cons hq]; exact hx

theorem Group.enterIdle_record {x : Group} (hx : x.RecordLaw) : x.enterIdle.RecordLaw :=
  hx.of_same rfl rfl hx.2.2.1 (by simp)

theorem Group.Completion.keeps_record {x y : Group} {r : GenRun} {w i : Bool} (h : x.Completion r w i y)
    (hx : x.RecordLaw) : y.RecordLaw := by
  cases h with
  | parked h ha =>
    exact Group.enterTarget_keeps (Group.enterIdle_record hx) (hx.of_sameRun x.enterRetryWait_sameRun)
      (hx.of_sameRun x.enterFaulted_sameRun) hx
  | resumed h n hp => exact Group.resumeRun_keeps (hx.of_same rfl rfl hx.2.2.1 (by simp)) hx
  | _ => exact hx

/-- Every move keeps a group's records within their ranges. -/
theorem Group.Move.keeps_record {x y : Group} (h : x.Move y) (hx : x.RecordLaw) : y.RecordLaw := by
  obtain ⟨hc, hg, hr, hp⟩ := id hx
  cases h with
  | fresh => decide
  | obtain => exact Group.obtain_record hx
  | condition => exact hx.of_same rfl rfl hr x.outputs_profile
  | countSince => rcases x.countSince_cases with ⟨h, -⟩ | ⟨h, -⟩ <;> rw [h] <;> exact hx
  | complete r w i => exact (x.complete_completion r w i).keeps_record hx
  | decimate => rcases x.decimate_cases with ⟨-, h⟩ | ⟨-, -, h⟩ | ⟨-, -, h⟩ <;> rw [h] <;> exact hx
  | trip ev hev => exact hx.of_sameRun (x.trip_sameRun ev)
  | interlockTrip =>
    exact Group.interlockTrip_keeps (law := Group.RecordLaw) (fun _ _ _ h => h) (fun _ _ _ _ h => h)
      (fun z h => h.of_sameRun z.enterFaulted_sameRun) hx
  | evaluate sets ts h => exact hx.of_same rfl rfl hr (by simp)
  | arrive i seq slots h =>
    exact Group.arrive_keeps (law := Group.RecordLaw) (fun _ _ h => h) (fun _ h => h) (fun _ _ h => h)
      (fun _ _ h => h) (fun _ h => h) (fun _ h => h) (fun _ _ h => h) seq slots hx
  | trims slots =>
    refine hx.of_same rfl rfl hr fun l => ?_
    rw [Group.takeTrims, Tab.get_mapIx, Channel.takeTrim_frame]
  | profile l prof hs hprof hrange =>
    exact ⟨hc, hg, hr, fun j =>
      Group.modChan_keeps (law := fun c => c.profile.Law) l (fun _ => hprof) (hp j)⟩
  | clearNaming i =>
    exact hx.of_same rfl rfl hr fun l => Group.clearNaming_keeps
      (law := fun c => c.profile = (x.chans.get l).profile) i rfl rfl
  | configure ops c hs hops => exact ⟨groupConfigOf_law hops, hg, hr, hp⟩
  | generator ops c hs hops => exact ⟨hc, genConfigOf_law hops, hr, hp⟩
  | disarm hs => exact Group.enterIdle_record hx
  | start hs => exact hx.of_same rfl rfl hr (by simp)
  | stop => rcases x.stopRun_cases with ⟨-, h⟩ | ⟨-, h⟩ <;> rw [h] <;> exact hx
  | abort y h =>
    rcases Group.abortRun_cases h with ⟨-, rfl⟩ | ⟨-, rfl⟩ | ⟨-, rfl⟩ | ⟨-, rfl⟩
    · exact hx.of_sameRun x.enterParking_sameRun
    · exact Group.enterIdle_record hx
    · exact hx.of_sameRun x.enterFaulted_sameRun
    · exact hx
  | genStart hs => exact hx.of_same rfl rfl ⟨hg.2.2.2.2.1, Nat.zero_le _⟩ (by simp)
  | clearFaults w i =>
    exact Group.clearFaults_keeps (law := Group.RecordLaw) w i (fun _ h => h) (fun _ h => Group.enterIdle_record h)
      (fun z h => h.of_sameRun z.enterParking_sameRun) hx
  | clearClamps l =>
    exact ⟨hc, hg, hr, fun j => Group.modChan_keeps (law := fun c => c.profile.Law) l id (hp j)⟩
  | _ => exact hx

theorem Group.arm_record (x : Group) (b : Option MapIx) (hx : x.RecordLaw) : (x.arm b).RecordLaw :=
  hx.of_same rfl rfl hx.2.2.1 (by simp)

/-! ## The device's records -/

/-- Every move of a port keeps its default tag below the tags of the classes (R36). -/
theorem PortState.Move.keeps_defaultTag {x y : PortState} (h : x.Move y)
    (hx : x.policy.defaultTag.toNat ≤ 0xFEF) : y.policy.defaultTag.toNat ≤ 0xFEF := by
  cases h with
  | fresh => decide
  | land => exact Nat.zero_le _
  | count f hf =>
    simp only [List.mem_cons, List.not_mem_nil, or_false] at hf
    rcases hf with rfl | rfl | rfl | rfl | rfl | rfl <;> exact hx
  | dispatch bs => rw [PortState.dispatch_frame]; exact hx
  | respond r => rw [PortState.pushResponse_frame]; exact hx
  | echo e => rw [(x.pushEcho_spec e).2.2.2.1]; exact hx
  | record g f => rw [PortState.placeRecord_frame]; exact hx
  | finish f h => rw [PortState.choose_policy]; exact hx
  | finishLand f h => exact Nat.zero_le _
  | policy a n hn =>
    rw [BitVec.toNat_ofNat, Nat.mod_eq_of_lt (by omega)]
    exact hn
  | _ => exact hx

/-- Every event keeps the records that requests write within their ranges. -/
theorem State.Event.keeps_records {s t : State} (h : s.Event t) (hs : s.RecordLaw) : t.RecordLaw := by
  obtain ⟨hg, hls, hp, hm⟩ := hs
  refine ⟨?_, ?_, ?_, ?_⟩
  · exact h.keepsEachGroup (law := Group.RecordLaw) (fun _ _ hm => hm.keeps_record) (fun x b _ => x.arm_record b) hg
  · intro i
    rcases h.limitSet i with he | he | ⟨ops, he⟩
    · rw [he]; exact hls i
    · rw [he]; decide
    · exact limitSetOf_law he
  · have keep (r : Port) (hr : (s.port r).policy.defaultTag.toNat ≤ 0xFEF) :
        (t.port r).policy.defaultTag.toNat ≤ 0xFEF :=
      (h.portsMove r).keeps (law := fun x => x.policy.defaultTag.toNat ≤ 0xFEF) 
        (fun _ _ hm => hm.keeps_defaultTag) hr
    simp only [List.mem_cons, List.not_mem_nil, or_false, forall_eq_or_imp, forall_eq] at hp ⊢
    exact ⟨keep .a hp.1, keep .b hp.2⟩
  · rcases h.alertMask with he | he
    · rw [he]; exact hm
    · exact he

/-- Settles O7: every event keeps each record within its ranges. -/
theorem recordRangesAreKept : Obligations.RecordRangesAreKept :=
  keptByEveryStep_of_event (fun _ _ h => h) fun _ _ he => he.keeps_records

end Sys2Proof.Machine
end

section
/-! The counters and the bounded counts (R1, R5, R72, R86, R120, R177, R179): every addition saturates, so every move
keeps them within their bounds. -/

namespace Sys2Proof.Machine

/-! ## Saturation -/

@[simp] theorem satAdd_le (n k : Nat) : satAdd n k ≤ 4294967295 := Nat.min_le_right _ _

@[simp] theorem countUp_le (n : Nat) : countUp n ≤ 65535 := Nat.min_le_right _ _

/-- A counter left or raised with saturation stays within its bound. -/
theorem ite_satAdd_le {p : Prop} [Decidable p] {n : Nat} (h : n ≤ 4294967295) :
    (if p then satAdd n 1 else n) ≤ 4294967295 := by
  split
  · exact satAdd_le n 1
  · exact h

/-! ## A channel -/

/-- A channel's counters and bounded counts within their bounds: the counter laws' part of a channel. -/
abbrev Channel.CountLaw (c : Channel) : Prop :=
  (c.slewClamps ≤ 4294967295 ∧ c.rangeClamps ≤ 4294967295) ∧ c.persist ≤ 65535
    ∧ c.position.count ≤ 255 ∧ c.force.count ≤ 255 ∧ c.error.count ≤ 255

theorem Channel.output_count {c : Channel} (v : Int) (hc : c.CountLaw) : (c.output v).CountLaw :=
  ⟨⟨ite_satAdd_le hc.1.1, ite_satAdd_le hc.1.2⟩, hc.2⟩

theorem Channel.countPersist_count {c : Channel} (hc : c.CountLaw) : c.countPersist.CountLaw := by
  obtain ⟨hs, -, hm⟩ := hc
  refine ⟨hs, ?_, hm⟩
  rw [Channel.countPersist_persist]
  split
  · exact countUp_le _
  · exact Nat.zero_le _

theorem Channel.clearMonitors_count {c : Channel} (hc : c.CountLaw) : c.clearMonitors.CountLaw :=
  ⟨hc.1, hc.2.1, Nat.zero_le _, Nat.zero_le _, Nat.zero_le _⟩

theorem MonRec.evaluate_count (r : MonRec) (m : LimitMon) (b : Bool) : (r.evaluate m b).1.count ≤ 255 := by
  unfold MonRec.evaluate
  split
  · exact Nat.zero_le _
  · dsimp only
    split
    · exact Nat.min_le_right _ _
    · exact Nat.zero_le _

theorem Channel.evaluate_count {c : Channel} (ls : LimitSet) (t : Triple) (hc : c.CountLaw) :
    (c.evaluate ls t).CountLaw :=
  ⟨hc.1, hc.2.1, MonRec.evaluate_count _ _ _, MonRec.evaluate_count _ _ _, MonRec.evaluate_count _ _ _⟩

theorem Channel.takeSlot_count {c : Channel} (o : Option Du) (hc : c.CountLaw) : (c.takeSlot o).CountLaw := by
  cases o <;> exact hc

theorem Channel.takeTrim_count {c : Channel} (o : Option Du) (hc : c.CountLaw) : (c.takeTrim o).CountLaw := by
  cases o <;> exact hc

/-! ## A group -/

/-- The twelve counters of a group within their bound. -/
abbrev GroupCounters.Law (c : GroupCounters) : Prop :=
  Saturated [c.playouts, c.underruns, c.overflowDrops, c.staleDrops, c.gapFrames, c.fillerEntries, c.seqBreaks,
    c.unboundDrops, c.refusedDrops, c.feedbackAccepted, c.feedbackStale, c.trips]

/-- The run tallies of a group within their bound. -/
abbrev Tallies.Law (t : Tallies) : Prop := Saturated [t.enqueued, t.played, t.skipped, t.flushed]

/-- The decimation counter below its period (R179). -/
abbrev TelemLaw (k n : Nat) : Prop := (k = 0 → n = 0) ∧ (k ≠ 0 → n < k)

/-- Every count of a group within its bound: both counter laws, by the records they read. -/
abbrev Group.Bounded (x : Group) : Prop :=
  x.ctr.Law ∧ x.tallies.Law ∧ (∀ l : LaneIx, (x.chans.get l).CountLaw) ∧ x.streak ≤ 65535 ∧ x.sinceFb ≤ 65535
    ∧ TelemLaw x.cfg.telemK x.telemCount

theorem Group.bounded_iff (x : Group) : x.Bounded ↔ x.CounterLaw ∧ x.CountLaw := by
  constructor
  · rintro ⟨hc, ht, hl, hs, hf, hk⟩
    simp only [Channel.CountLaw] at hl
    refine ⟨⟨hc, ht, fun l => ?_⟩, hs, hf, hk.1, hk.2, fun l => ⟨(hl l).2.1, ?_⟩⟩
    · simpa [Saturated] using (hl l).1
    · simpa using (hl l).2.2
  · rintro ⟨⟨hc, ht, hl⟩, hs, hf, hk0, hk1, hp⟩
    refine ⟨hc, ht, fun l => ⟨?_, (hp l).1, ?_⟩, hs, hf, hk0, hk1⟩
    · simpa [Saturated] using hl l
    · simpa using (hp l).2

theorem Group.Bounded.of_ctr {x : Group} {c : GroupCounters} (hx : x.Bounded) (hc : c.Law) :
    ({ x with ctr := c } : Group).Bounded := ⟨hc, hx.2⟩

theorem Group.Bounded.of_chans {x : Group} {t : Tab 6 Channel} (hx : x.Bounded)
    (ht : ∀ l : LaneIx, (t.get l).CountLaw) : ({ x with chans := t } : Group).Bounded :=
  ⟨hx.1, hx.2.1, ht, hx.2.2.2⟩

theorem Group.recordTrip_bounded (x : Group) (ev : MonEvent) (r : Bool) (hx : x.Bounded) :
    (x.recordTrip ev r).Bounded := by
  obtain ⟨hc, ht, hl, hs, hf, hk⟩ := hx
  exact ⟨by simp_all [GroupCounters.Law, Saturated], ht, hl, hs, hf, hk⟩

theorem Group.flush_bounded {x : Group} (hx : x.Bounded) : x.flush.Bounded := by
  obtain ⟨hc, ht, hl, hs, hf, hk⟩ := hx
  exact ⟨hc, by simp_all [Tallies.Law, Saturated], hl, hs, hf, hk⟩

theorem Group.enterIdle_bounded (x : Group) (hx : x.Bounded) : x.enterIdle.Bounded := by
  obtain ⟨hc, ht, hl, hs, hf, hk⟩ := Group.flush_bounded hx
  refine ⟨hc, ht, fun l => ?_, hs, hf, hk⟩
  rw [Group.enterIdle_chans, Tab.get_map]
  have hm := Channel.clearMonitors_count (hx.2.2.1 l)
  exact hm

theorem Group.enterFaulted_bounded (x : Group) (hx : x.Bounded) : x.enterFaulted.Bounded := by
  obtain ⟨hc, ht, hl, hs, hf, hk⟩ := Group.flush_bounded hx
  refine ⟨hc, ht, fun l => ?_, hs, hf, hk⟩
  rw [Group.enterFaulted_chans, Tab.get_map]
  exact Channel.clearMonitors_count (hx.2.2.1 l)

theorem Group.freeze_bounded {x : Group} (hx : x.Bounded) : x.freeze.Bounded :=
  hx.of_chans fun l => by rw [Tab.get_map]; exact hx.2.2.1 l

theorem Group.enterParking_bounded (x : Group) (hx : x.Bounded) : x.enterParking.Bounded :=
  have hf := Group.freeze_bounded hx
  hf

theorem Group.enterHeld_bounded (x : Group) (hx : x.Bounded) : x.enterHeld.Bounded :=
  have hf := Group.freeze_bounded hx
  hf

theorem Group.enterFadeIn_bounded {x : Group} (hx : x.Bounded) : x.enterFadeIn.Bounded := by
  obtain ⟨hc, ht, hl, hs, hf, hk⟩ := hx
  refine ⟨hc, ht, fun l => ?_, Nat.zero_le _, hf, hk⟩
  rw [Group.enterFadeIn_chans, Tab.get_map]
  exact ⟨(hl l).1, Nat.zero_le _, (hl l).2.2⟩

theorem Group.take_bounded {x : Group} (hx : x.Bounded) : x.take.1.Bounded := by
  obtain ⟨hc, ht, hl, hs, hf, hk⟩ := hx
  rcases hq : x.queue with _ | ⟨e, rest⟩
  · rw [Group.take_nil hq]
    exact ⟨by simp_all [GroupCounters.Law, Saturated], ht, hl, countUp_le _, hf, hk⟩
  · rw [Group.take_cons hq]
    refine ⟨hc, by simp_all [Tallies.Law, Saturated], fun l => ?_, Nat.zero_le _, hf, hk⟩
    rw [Tab.get_mapIx]
    exact Channel.takeSlot_count _ (hl l)

theorem Group.skip_bounded {x : Group} (hx : x.Bounded) : x.skip.Bounded := by
  obtain ⟨hc, ht, hl, hs, hf, hk⟩ := id hx
  rcases hq : x.queue with _ | ⟨e, rest⟩
  · rw [Group.skip_nil hq]; exact hx
  · rw [Group.skip_cons hq]
    exact ⟨hc, by simp_all [Tallies.Law, Saturated], hl, hs, hf, hk⟩

theorem Group.outputs_count {x : Group} {l : LaneIx} (hl : (x.chans.get l).CountLaw) :
    (x.outputs.get l).CountLaw :=
  Group.outputs_keeps (fun _ => Channel.countPersist_count (Channel.output_count _ hl))
    (fun _ => Channel.output_count _ hl) hl hl

theorem Group.decimate_bounded {x : Group} (hx : x.Bounded) : x.decimate.1.Bounded := by
  obtain ⟨hc, ht, hl, hs, hf, hk0, hk1⟩ := id hx
  rcases x.decimate_cases with ⟨-, h⟩ | ⟨h0, -, h⟩ | ⟨h0, h1, h⟩ <;> rw [h]
  · exact hx
  · exact ⟨hc, ht, hl, hs, hf, fun h => absurd h h0, fun _ => Nat.pos_of_ne_zero h0⟩
  · exact ⟨hc, ht, hl, hs, hf, fun h => absurd h h0, fun _ => by have := hk1 h0; dsimp only; omega⟩

theorem Group.Completion.keeps_bounded {x y : Group} {r : GenRun} {w i : Bool} (h : x.Completion r w i y)
    (hx : x.Bounded) : y.Bounded := by
  obtain ⟨hc, ht, hl, hs, hf, hk⟩ := id hx
  cases h with
  | faded h ha =>
    obtain ⟨kc, kt, kl, -, kf, kk⟩ := Group.flush_bounded hx
    exact ⟨kc, kt, kl, Nat.zero_le _, kf, kk⟩
  | parked h ha =>
    exact Group.enterTarget_keeps (x.enterIdle_bounded hx) ⟨hc, ht, hl, hs, hf, hk⟩ (x.enterFaulted_bounded hx) hx
  | resumed h n hp =>
    exact Group.resumeRun_keeps (Group.enterFadeIn_bounded ⟨hc, ht, hl, hs, hf, hk⟩)
      ⟨hc, ht, hl, Nat.zero_le _, hf, hk⟩
  | _ => exact ⟨hc, ht, hl, hs, hf, hk⟩

theorem Group.arrive_bounded {x : Group} (seq : Seq) (slots : Tab 6 (Option Du)) (hx : x.Bounded) :
    (x.arrive seq slots).1.Bounded := by
  refine Group.arrive_keeps (law := Group.Bounded) ?_ ?_ ?_ ?_ ?_ ?_ ?_ seq slots hx
  · rintro z es ⟨hc, ht, hl, hs, hf, hk⟩
    exact ⟨hc, by simp_all [Tallies.Law, Saturated], hl, hs, hf, hk⟩
  · exact fun z hz => hz.of_ctr (by have := hz.1; simp_all [GroupCounters.Law, Saturated])
  · exact fun z n hz => hz.of_ctr (by have := hz.1; simp_all [GroupCounters.Law, Saturated])
  · exact fun z n hz => hz.of_ctr (by have := hz.1; simp_all [GroupCounters.Law, Saturated])
  · exact fun z hz => hz.of_ctr (by have := hz.1; simp_all [GroupCounters.Law, Saturated])
  · exact fun z hz => hz.of_ctr (by have := hz.1; simp_all [GroupCounters.Law, Saturated])
  · exact fun z q hz => hz

/-- Every move keeps a group's counts within their bounds. -/
theorem Group.Move.keeps_bounded {x y : Group} (h : x.Move y) (hx : x.Bounded) : y.Bounded := by
  obtain ⟨hc, ht, hl, hs, hf, hk⟩ := id hx
  cases h with
  | fresh => exact (Group.bounded_iff _).mpr (by decide)
  | advance => exact hx.of_ctr (by simp_all [GroupCounters.Law, Saturated])
  | obtain =>
    exact Group.obtain_keeps (Group.take_bounded hx)
      (hx.of_chans (t := x.generate.chans) fun l => by rw [Group.generate, Tab.get_mapIx]; exact hl l)
      (Group.skip_bounded hx) hx
  | condition => exact hx.of_chans fun l => Group.outputs_count (hl l)
  | countSince =>
    rcases x.countSince_cases with ⟨h, -⟩ | ⟨h, -⟩ <;> rw [h]
    · exact ⟨hc, ht, hl, hs, countUp_le _, hk⟩
    · exact hx
  | complete r w i => exact (x.complete_completion r w i).keeps_bounded hx
  | decimate => exact Group.decimate_bounded hx
  | trip ev hev =>
    exact Group.trip_keeps (law := Group.Bounded) (fun _ _ _ h => h) recordTrip_bounded (fun _ _ _ _ h => h)
      (fun _ _ h => h) (fun z _ => z.enterFaulted_bounded) (fun z _ => z.enterParking_bounded)
      (fun z _ => z.enterHeld_bounded) ev hx
  | interlockTrip =>
    exact Group.interlockTrip_keeps (law := Group.Bounded) recordTrip_bounded (fun _ _ _ _ h => h)
      enterFaulted_bounded hx
  | acceptEcho e => exact ⟨by simp_all [GroupCounters.Law, Saturated], ht, hl, hs, Nat.zero_le _, hk⟩
  | staleEcho => exact hx.of_ctr (by simp_all [GroupCounters.Law, Saturated])
  | evaluate sets ts h =>
    exact hx.of_chans fun l => by rw [Tab.get_mapIx]; exact Channel.evaluate_count _ _ (hl l)
  | unbound => exact hx.of_ctr (by simp_all [GroupCounters.Law, Saturated])
  | refused => exact hx.of_ctr (by simp_all [GroupCounters.Law, Saturated])
  | arrive i seq slots h => exact Group.arrive_bounded seq slots hx
  | staleTrim => exact hx.of_ctr (by simp_all [GroupCounters.Law, Saturated])
  | trims slots => exact hx.of_chans fun l => by rw [Tab.get_mapIx]; exact Channel.takeTrim_count _ (hl l)
  | profile l prof hs hprof hrange => exact hx.of_chans fun j => Group.modChan_keeps l id (hl j)
  | clearNaming i =>
    exact hx.of_chans fun l => Group.clearNaming_keeps i (Channel.clearMonitors_count (hl l)) (hl l)
  | configure ops c hi hops => exact ⟨hc, ht, hl, hs, hf, fun _ => rfl, fun h => Nat.pos_of_ne_zero h⟩
  | disarm hi => exact x.enterIdle_bounded hx
  | start hi =>
    have hf := Group.enterFadeIn_bounded hx
    exact hf
  | stop => rcases x.stopRun_cases with ⟨-, h⟩ | ⟨-, h⟩ <;> rw [h] <;> exact ⟨hc, ht, hl, hs, hf, hk⟩
  | abort y h =>
    rcases Group.abortRun_cases h with ⟨-, rfl⟩ | ⟨-, rfl⟩ | ⟨-, rfl⟩ | ⟨-, rfl⟩
    · have hp := x.enterParking_bounded hx
      exact hp
    · exact x.enterIdle_bounded hx
    · have hf := x.enterFaulted_bounded hx
      exact hf
    · exact hx
  | genStart hi =>
    have hf := Group.enterFadeIn_bounded (Group.flush_bounded hx)
    exact hf
  | clearFaults w i =>
    exact Group.clearFaults_keeps (law := Group.Bounded) w i (fun _ h => h) enterIdle_bounded
      enterParking_bounded hx
  | clearCounters => exact hx.of_ctr (by decide)
  | clearClamps l =>
    exact hx.of_chans fun j => Group.modChan_keeps l (fun h => ⟨⟨Nat.zero_le _, Nat.zero_le _⟩, h.2⟩) (hl j)
  | _ => exact ⟨hc, ht, hl, hs, hf, hk⟩

theorem Group.arm_bounded (x : Group) (b : Option MapIx) (hx : x.Bounded) : (x.arm b).Bounded := by
  obtain ⟨hc, -, hl, -, -, hk⟩ := hx
  refine ⟨hc, (by decide : defaultTallies.Law), fun l => ?_, Nat.zero_le _, Nat.zero_le _, hk⟩
  rw [Group.arm_chans, Tab.get_map]
  exact ⟨(hl l).1, Nat.zero_le _, (hl l).2.2⟩

/-! ## Ports and the servo link -/

/-- The eleven counters of a port within their bound. -/
abbrev PortCounters.Law (c : PortCounters) : Prop :=
  Saturated [c.framesReceived, c.checkErrors, c.malformed, c.admitRefused, c.unknownTag, c.unknownClass,
    c.classDiscarded, c.requestOverflow, c.echoDropped, c.telemetryReplaced, c.excessSamples]

theorem PortState.dispatch_counters {x : PortState} (bs : List Byte) (hx : x.ctr.Law) : (x.dispatch bs).ctr.Law := by
  unfold PortState.dispatch
  split
  · simp_all [PortCounters.Law, Saturated]
  · split
    · simp_all [PortCounters.Law, Saturated]
    · split
      · simp_all [PortCounters.Law, Saturated]
      · exact hx

theorem PortCounters.law_default : defaultPortCounters.Law := by decide

/-- Every move of a port keeps its counters within their bound. -/
theorem PortState.Move.keeps_counters {x y : PortState} (h : x.Move y) (hx : x.ctr.Law) : y.ctr.Law := by
  cases h with
  | fresh => decide
  | land => exact PortCounters.law_default
  | count f hf =>
    simp only [List.mem_cons, List.not_mem_nil, or_false] at hf
    rcases hf with rfl | rfl | rfl | rfl | rfl | rfl <;> simp_all [PortCounters.Law, Saturated]
  | dispatch bs => exact PortState.dispatch_counters bs hx
  | respond r => rw [PortState.pushResponse_frame]; exact hx
  | echo e =>
    rw [(x.pushEcho_spec e).2.2.2.2.2.2.2]
    split
    · exact hx
    · simp_all [PortCounters.Law, Saturated]
  | record g f =>
    rw [PortState.placeRecord_frame]
    dsimp only
    split <;> simp_all [PortCounters.Law, Saturated]
  | finish f h => rw [PortState.choose_ctr]; exact hx
  | finishLand f h => exact PortCounters.law_default
  | clearCounters => exact PortCounters.law_default
  | _ => exact hx

/-- The three counters of the servo link within their bound. -/
abbrev ServoCounters.Law (c : ServoCounters) : Prop := Saturated [c.framesReceived, c.checkErrors, c.malformed]

theorem State.feedback_servo {s : State} (bs : List Byte) (hs : s.servo.Law) : (s.feedback bs).servo.Law := by
  have hc : s.countServoFrame.servo.Law := by simp_all [ServoCounters.Law, Saturated]
  cases hj : s.judgeFeedback bs with
  | checkError => rw [State.feedback_checkError hj]; simp_all [ServoCounters.Law, Saturated]
  | malformed => rw [State.feedback_malformed hj]; simp_all [ServoCounters.Law, Saturated]
  | stale g => rw [State.feedback_stale hj]; exact hc
  | accepted g => rw [State.feedback_accepted hj]; exact hc

theorem State.Event.keeps_servo {s t : State} (h : s.Event t) (hs : s.servo.Law) : t.servo.Law := by
  cases h with
  | powerOn pins => exact (by decide : defaultServoCounters.Law)
  | frame p bs hr =>
    rw [(State.ingress_fate (s.modPort p PortState.countReceived) p bs).frame]
    simpa using hs
  | refused p q st hn => simpa using hs
  | taken k p q a pl u hn hk hv =>
    rw [State.carryOut_take_servo]
    cases judge_effect k hv with
    | servoCounters => exact (by decide : defaultServoCounters.Law)
    | _ => simpa using hs
  | playout g => rw [State.playout_frame]; exact hs
  | feedback bs => exact State.feedback_servo bs hs
  | tick u => rw [State.tick_frame]; exact hs
  | sendComplete p levels =>
    rcases s.sendComplete_cases p levels with h | ⟨u, k, h⟩
    · rw [h]; exact hs
    · rw [h]; exact (by decide : defaultServoCounters.Law)
  | _ => exact hs

/-- Every event keeps every counter within its bound. -/
theorem State.Event.keeps_counters {s t : State} (h : s.Event t) (hs : s.CounterLaw) : t.CounterLaw := by
  obtain ⟨hg, hsv, hp⟩ := hs
  refine ⟨fun g => (Group.bounded_iff _).mp ?_, h.keeps_servo hsv, ?_⟩
  · exact h.keepsEachGroup (fun _ _ hm => hm.keeps_bounded) (fun x b _ => x.arm_bounded b)
      (fun g => (Group.bounded_iff _).mpr (hg g)) g
  · have keep (r : Port) (hr : (s.port r).ctr.Law) : (t.port r).ctr.Law :=
      (h.portsMove r).keeps (law := fun x => x.ctr.Law) (fun _ _ hm => hm.keeps_counters) hr
    have ha := keep .a (hp s.portA (by simp))
    have hb := keep .b (hp s.portB (by simp))
    intro p hmem
    simp only [List.mem_cons, List.not_mem_nil, or_false] at hmem
    rcases hmem with rfl | rfl
    · exact ha
    · exact hb

/-- Settles O13: every event keeps every counter within its bound. -/
theorem countersNeverWrap : Obligations.CountersNeverWrap :=
  keptByEveryStep_of_event (fun _ _ h => h) fun _ _ he => he.keeps_counters

end Sys2Proof.Machine
end

section
/-! The binding (R2): a group's moves leave its bound entry or free it, ARM binds it to a valid PRIMARY entry of its
own, and no bound entry is written or cleared. -/

namespace Sys2Proof.Machine

/-! ## A group's moves -/

/-- A group in IDLE is bound to nothing, and its bound entry has a property. -/
abbrev Group.BoundLaw (p : MapIx → Prop) (x : Group) : Prop :=
  (x.state = .idle → x.bound = none) ∧ ∀ i ∈ x.bound, p i

section BoundLaw

variable {p : MapIx → Prop}

/-- A group that leaves IDLE or stays out of it, with its binding as it was. -/
theorem Group.BoundLaw.of_active {x y : Group} (hx : x.BoundLaw p) (hs : y.state ≠ .idle) (hb : y.bound = x.bound) :
    y.BoundLaw p := ⟨fun h => absurd h hs, by rw [hb]; exact hx.2⟩

theorem Group.BoundLaw.of_unbound {y : Group} (hb : y.bound = none) : y.BoundLaw p := by
  simp [Group.BoundLaw, hb]

theorem Group.enterIdle_boundLaw (x : Group) : x.enterIdle.BoundLaw p := .of_unbound rfl

theorem Group.enterRetryWait_boundLaw (x : Group) (hx : x.BoundLaw p) : x.enterRetryWait.BoundLaw p :=
  hx.of_active (by simp) rfl

theorem Group.enterFaulted_boundLaw (x : Group) (hx : x.BoundLaw p) : x.enterFaulted.BoundLaw p :=
  hx.of_active (by simp) rfl

theorem Group.enterParking_boundLaw (x : Group) (hx : x.BoundLaw p) : x.enterParking.BoundLaw p :=
  hx.of_active (by simp) rfl

theorem Group.enterHeld_boundLaw (x : Group) (hx : x.BoundLaw p) : x.enterHeld.BoundLaw p :=
  hx.of_active (by simp) rfl

theorem Group.Completion.keeps_bound {x y : Group} {r : GenRun} {w i : Bool} (h : x.Completion r w i y)
    (hx : x.BoundLaw p) : y.BoundLaw p := by
  cases h with
  | stay => exact hx
  | ticked h n hn => exact hx
  | parked h ha =>
    exact Group.enterTarget_keeps (law := Group.BoundLaw p) x.enterIdle_boundLaw (x.enterRetryWait_boundLaw hx)
      (x.enterFaulted_boundLaw hx) hx
  | resumed h n hp =>
    exact Group.resumeRun_keeps (law := Group.BoundLaw p) (hx.of_active (by simp) rfl) (hx.of_active (by simp) rfl)
  | _ => exact hx.of_active (by simp) rfl

/-- Every move but ARM leaves a group's binding or frees it. -/
theorem Group.Move.keeps_bound {x y : Group} (h : x.Move y) (hx : x.BoundLaw p) : y.BoundLaw p := by
  cases h with
  | fresh => exact .of_unbound rfl
  | obtain =>
    refine Group.obtain_keeps (law := Group.BoundLaw p) ?_ hx ?_ hx
    · rcases hq : x.queue with _ | ⟨e, rest⟩
      · rw [Group.take_nil hq]; exact hx
      · rw [Group.take_cons hq]; exact hx
    · rcases hq : x.queue with _ | ⟨e, rest⟩
      · rw [Group.skip_nil hq]; exact hx
      · rw [Group.skip_cons hq]; exact hx
  | countSince => rcases x.countSince_cases with ⟨h, -⟩ | ⟨h, -⟩ <;> rw [h] <;> exact hx
  | complete r w i => exact (x.complete_completion r w i).keeps_bound hx
  | decimate => rcases x.decimate_cases with ⟨-, h⟩ | ⟨-, -, h⟩ | ⟨-, -, h⟩ <;> rw [h] <;> exact hx
  | trip ev hev =>
    exact Group.trip_keeps (law := Group.BoundLaw p) (fun _ _ _ h => h) (fun _ _ _ h => h) (fun _ _ _ _ h => h)
      (fun z _ => z.enterRetryWait_boundLaw) (fun z _ => z.enterFaulted_boundLaw)
      (fun z _ => z.enterParking_boundLaw) (fun z _ => z.enterHeld_boundLaw) ev hx
  | interlockTrip =>
    exact Group.interlockTrip_keeps (law := Group.BoundLaw p) (fun _ _ _ h => h) (fun _ _ _ _ h => h)
      enterFaulted_boundLaw hx
  | arrive i seq slots h =>
    exact Group.arrive_keeps (law := Group.BoundLaw p) (fun _ _ h => h) (fun _ h => h) (fun _ _ h => h)
      (fun _ _ h => h) (fun _ h => h) (fun _ h => h) (fun _ _ h => h) seq slots hx
  | disarm hs => exact x.enterIdle_boundLaw
  | start hs => exact hx.of_active (by simp) rfl
  | stop =>
    rcases x.stopRun_cases with ⟨-, h⟩ | ⟨-, h⟩ <;> rw [h]
    · exact hx.of_active (by simp) rfl
    · exact hx
  | abort y h =>
    rcases Group.abortRun_cases h with ⟨-, rfl⟩ | ⟨-, rfl⟩ | ⟨-, rfl⟩ | ⟨-, rfl⟩
    · exact x.enterParking_boundLaw hx
    · exact x.enterIdle_boundLaw
    · exact x.enterFaulted_boundLaw hx
    · exact hx
  | genStart hs => exact hx.of_active (by simp) rfl
  | clearFaults w i =>
    exact Group.clearFaults_keeps (law := Group.BoundLaw p) w i (fun _ h => h) (fun z _ => z.enterIdle_boundLaw)
      enterParking_boundLaw hx
  | _ => exact hx

end BoundLaw

/-! ## The stream map's moves -/

/-- What a group may be bound to: a valid PRIMARY entry of its own (R2). -/
abbrev State.Bindable (s : State) (g : GroupIx) (i : MapIx) : Prop :=
  (s.map.get i).valid = true ∧ (s.map.get i).role = .primary ∧ (s.map.get i).group = g

theorem State.bindingLaw_iff (s : State) :
    s.BindingLaw ↔ ∀ g : GroupIx, (s.group g).BoundLaw (s.Bindable g) := Iff.rfl

/-- An entry that no group is bound to (R2). -/
theorem State.boundGroup_none {s : State} {i : MapIx} (h : s.boundGroup i = none) (g : GroupIx) :
    (s.group g).bound ≠ some i := by
  have hg := List.find?_eq_none.mp h g (by fin_cases g <;> simp [groupList])
  simpa using hg

/-- What an event can do to the map: nothing; a write or a clear of an entry that no group is bound to, which leaves
the groups; a trim's sequence number noted; or a reset, which frees every group. -/
inductive State.MapMoves (s t : State) : Prop
  | same (h : t.map = s.map)
  | entry (i : MapIx) (e : MapEntry) (hg : t.groups = s.groups) (hb : s.boundGroup i = none)
      (h : t.map = s.map.set i e)
  | trimmed (i : MapIx) (seq : Seq) (h : t.map = s.map.set i { s.map.get i with lastTrim := some seq })
  | freed (h : ∀ g : GroupIx, (t.group g).bound = none)

theorem State.FrameFate.mapMoves {s t : State} {p : Port} (h : s.FrameFate p t) : s.MapMoves t := by
  cases h with
  | counted f hf => exact .same (by simp)
  | dispatched bs => exact .same (by simp)
  | queued i bs seq slots h =>
    refine .same ?_
    unfold State.driveArrival
    dsimp only
    split <;> simp [State.deliver]
  | trimmed i bs seq slots hr hv => exact .trimmed i seq rfl
  | _ => exact .same rfl

theorem State.Effect.mapMoves {s t : State} {p : Port} (h : s.Effect p t) : s.MapMoves t := by
  cases h with
  | mapWrite i g tag role lm pm e hb hc he => exact .entry i e rfl hb rfl
  | mapClear i hb => exact .entry i _ rfl hb rfl
  | policy p a tag h => exact .same (by simp)
  | actions p c n a hl ha => exact .same (by simp)
  | portCounters p => exact .same (by simp)
  | _ => exact .same rfl

/-- What every event does to the map. -/
theorem State.Event.mapMoves {s t : State} (h : s.Event t) : s.MapMoves t := by
  cases h with
  | powerOn pins => exact .freed fun g => by rw [State.group]; exact congrArg Group.bound (Tab.get_fill _ g)
  | frame p bs hr =>
    cases (State.ingress_fate (s.modPort p PortState.countReceived) p bs).mapMoves with
    | same h => exact .same (h.trans (by simp))
    | entry i e hg hb h => exact .entry i e (hg.trans (by simp)) (by simpa [State.boundGroup] using hb) (by simpa using h)
    | trimmed i seq h => exact .trimmed i seq (by simpa using h)
    | freed h => exact .freed h
  | refused p q st hn => exact .same (by simp)
  | taken k p q a pl u hn hk hv =>
    cases (judge_effect k hv).mapMoves with
    | same h => exact .same (by simpa using h)
    | entry i e hg hb h =>
      exact .entry i e (by simpa using hg) (by simpa [State.boundGroup] using hb) (by simpa using h)
    | trimmed i seq h => exact .trimmed i seq (by simpa using h)
    | freed h => exact .freed (by simpa using h)
  | playout g => exact .same (by simp)
  | feedback bs => rw [State.feedback_frame]; exact .same rfl
  | tick u => rw [State.tick_frame]; exact .same rfl
  | sendComplete p levels =>
    rcases s.sendComplete_cases p levels with h | ⟨u, k, h⟩
    · rw [h]; exact .same rfl
    · rw [h]
      exact .freed fun g => by rw [State.group]; exact congrArg Group.bound (Tab.get_fill _ g)
  | _ => exact .same rfl

/-! ## The law -/

/-- ARM's operand names an entry the group may be bound to (R20). -/
theorem State.armTarget_bindable {s : State} {g : GroupIx} {n : Nat} {b : Option MapIx}
    (h : s.armTarget g n = some b) : ∀ i ∈ b, s.Bindable g i := by
  unfold State.armTarget at h
  split at h
  · cases h
    simp
  · split at h
    · cases h
    · dsimp only at h
      split at h
      · next hi =>
        cases h
        simpa using hi
      · cases h

/-- After an event every group is bound as the map before it allows. -/
theorem State.Event.groups_bound {s t : State} (h : s.Event t) (hs : s.BindingLaw) (g : GroupIx) :
    (t.group g).BoundLaw (s.Bindable g) := by
  rcases h.groupsMove with hg | ⟨j, n, b, hb, -, -, hg, -⟩
  · exact (hg g).keeps (fun _ _ hm => hm.keeps_bound) (hs g)
  · by_cases hj : j = g
    · subst hj
      have ht : t.group j = (s.group j).arm b := by simp [State.group, hg]
      rw [ht]
      exact ⟨fun h => absurd h (by simp), State.armTarget_bindable hb⟩
    · have ht : t.group g = s.group g := by simp [State.group, hg, Tab.get_set_ne _ _ hj]
      rw [ht]
      exact hs g

/-- Every event keeps the binding law. -/
theorem State.Event.keeps_binding {s t : State} (h : s.Event t) (hs : s.BindingLaw) : t.BindingLaw := by
  intro g
  obtain ⟨hi, hb⟩ := h.groups_bound hs g
  refine ⟨hi, fun j hj => ?_⟩
  have hbind := hb j hj
  cases h.mapMoves with
  | same hm => rw [hm]; exact hbind
  | entry i e hg hfree hm =>
    have hne : i ≠ j := by
      rintro rfl
      have hold : (s.group g).bound = some i := by rwa [State.group, ← hg]
      exact State.boundGroup_none hfree g hold
    rw [hm, Tab.get_set_ne _ _ hne]
    exact hbind
  | trimmed i seq hm =>
    rw [hm, Tab.get_set]
    split
    · next he => subst he; exact hbind
    · exact hbind
  | freed hf => rw [hf g] at hj; cases hj

/-- Settles O15: every event keeps the binding law. -/
theorem bindingLawIsKept : Obligations.BindingLawIsKept :=
  keptByEveryStep_of_event (fun _ _ h => h) fun _ _ he => he.keeps_binding

end Sys2Proof.Machine
end

section
/-! Run control (R19 to R25, R97, R98): ARM, START, GEN_START, DISARM, STOP and ABORT as the executor's take, by the
group's state. -/

namespace Sys2Proof.Machine

/-! ## The take of a RUN request -/

section Asked

variable {s : State} {p : Port} {q : Request} {c : ReqClass} {n : Nat} {g : GroupIx} {ops : List Byte}

/-- The group that a request's first operand names is one of the four. -/
theorem State.Asks.operand_group (h : s.Asks p q c n (BitVec.ofNat 8 g.val :: ops)) :
    indexOf 4 (natAt8 q.operands 0) = some g := by
  rw [h.2.2.2]
  exact indexOf_ofNat g (by decide)

theorem State.Asks.onGroup_eq (h : s.Asks p q c n (BitVec.ofNat 8 g.val :: ops)) (f : GroupIx → Verdict) :
    onGroup q f = f g := by
  rw [onGroup, h.operand_group]

end Asked

/-! ## ARM -/

theorem State.armTarget_dequeue (s : State) (p : Port) (g : GroupIx) (n : Nat) :
    (s.dequeue p).armTarget g n = s.armTarget g n := by
  simp [State.armTarget]

/-- An operand that names no valid PRIMARY entry of the group (R20). -/
theorem State.armTarget_none {s : State} {g : GroupIx} {b : Byte}
    (h : 32 ≤ b.toNat ∧ b ≠ 255 ∨ ∃ i : MapIx, i.val = b.toNat ∧ ((s.map.get i).valid = false
      ∨ (s.map.get i).role ≠ .primary ∨ (s.map.get i).group ≠ g)) : s.armTarget g b.toNat = none := by
  rcases h with ⟨hb, hne⟩ | ⟨i, hi, he⟩
  · have h255 : b.toNat ≠ 255 := fun h => hne (BitVec.eq_of_toNat_eq h)
    simp [State.armTarget, indexOf, h255, Nat.not_lt.mpr hb]
  · have h255 : b.toNat ≠ 255 := by omega
    have hix : indexOf 32 b.toNat = some i := by simp [indexOf, ← hi]
    simp only [State.armTarget, h255, if_false, hix]
    rw [if_neg]
    rintro ⟨hv, hr, hg⟩
    rcases he with h | h | h
    · simp_all
    · exact h hr
    · exact h hg

/-- An operand that names an entry of the group, or none (R20). -/
theorem State.armTarget_some {s : State} {g : GroupIx} {b : Byte} {target : Option MapIx}
    (h : target = none ∧ b = 255 ∨ ∃ i : MapIx, target = some i ∧ i.val = b.toNat
      ∧ (s.map.get i).valid = true ∧ (s.map.get i).role = .primary ∧ (s.map.get i).group = g) :
    s.armTarget g b.toNat = some target := by
  rcases h with ⟨rfl, rfl⟩ | ⟨i, rfl, hi, hv, hr, hg⟩
  · rfl
  · have h255 : b.toNat ≠ 255 := by omega
    have hix : indexOf 32 b.toNat = some i := by simp [indexOf, ← hi]
    simp [State.armTarget, h255, hix, hv, hr, hg]

/-- Settles O41, by the order of ARM's checks. -/
theorem armReadiesAnIdleGroup : Obligations.ArmReadiesAnIdleGroup := by
  intro s p q g b h
  have hx : exec .arm s = .next (s.carryOut p q (judgeArm p q (s.dequeue p))) := exec_asks .arm h rfl rfl
  have hop : natAt8 q.operands 1 = b.toNat := by rw [h.2.2.2]; rfl
  rw [hx, judgeArm, h.onGroup_eq]
  simp only [hop, State.armTarget_dequeue, State.group_dequeue, State.dequeue_interlockOpen]
  refine ⟨fun hbad => ?_, fun target ht => ?_⟩
  · rw [State.armTarget_none hbad]
  · rw [State.armTarget_some ht]
    dsimp only
    refine ⟨fun hs => by rw [if_pos hs], fun hs => ?_⟩
    rw [if_neg (by simp [hs])]
    refine ⟨fun ho => by rw [if_pos ho], fun ho => ?_⟩
    rw [if_neg (by simp [ho])]
    rfl

/-! ## START and GEN_START -/

/-- Settles O42, by the order of the checks of each. -/
theorem startsEnterFadeIn : Obligations.StartsEnterFadeIn := by
  intro s p q g
  constructor
  · intro h
    have hx : exec .start s = .next (s.carryOut p q (judgeStart p q (s.dequeue p))) := exec_asks .start h rfl rfl
    rw [hx, judgeStart, h.onGroup_eq]
    simp only [State.group_dequeue, State.dequeue_interlockOpen]
    refine ⟨fun hw => by rw [if_pos hw], fun hs hb => ?_⟩
    rw [if_neg (by simp [hs, hb])]
    refine ⟨fun ho => by rw [if_pos ho], fun ho => ?_⟩
    rw [if_neg (by simp [ho])]
    refine ⟨fun hq => by rw [if_pos hq], fun hq => ?_⟩
    rw [if_neg (Nat.not_lt.mpr hq)]
    rfl
  · intro h
    have hx : exec .genStart s = .next (s.carryOut p q (judgeGenStart p q (s.dequeue p))) :=
      exec_asks .genStart h rfl rfl
    rw [hx, judgeGenStart, h.onGroup_eq]
    simp only [State.group_dequeue, State.dequeue_interlockOpen]
    refine ⟨fun hw => by rw [if_pos hw], fun hs => ?_⟩
    rw [if_neg (by simp [hs])]
    refine ⟨fun ho => by rw [if_pos ho], fun ho => ?_⟩
    rw [if_neg (by simp [ho])]
    rfl

/-! ## DISARM, STOP and ABORT -/

/-- Settles O43: each request by the group's state, the entries by what they leave. -/
theorem runsEndByRequest : Obligations.RunsEndByRequest := by
  rintro s p q g x rested faulted parked rfl hrest hfault hpark
  have hr : (s.group g).enterIdle = rested := hrest.symm
  have hf : { (s.group g).enterFaulted with target := some .faulted } = faulted := hfault.symm
  have hp : { (s.group g).enterParking with action := some .park, target := some .idle } = parked := hpark.symm
  have hstay : (s.dequeue p).setGroup g (s.group g) = s.dequeue p := by
    simpa using (s.dequeue p).setGroup_group g
  refine ⟨fun h => ?_, fun h => ?_, fun h => ?_⟩
  · have hx : exec .disarm s = .next (s.carryOut p q (judgeDisarm p q (s.dequeue p))) := exec_asks .disarm h rfl rfl
    rw [hx, judgeDisarm, h.onGroup_eq, State.group_dequeue]
    exact ⟨fun hs => by rw [if_pos hs, hr]; rfl, fun hs => by rw [if_neg hs]⟩
  · have hx : exec .stop s = .next (s.carryOut p q (judgeStop p q (s.dequeue p))) := exec_asks .stop h rfl rfl
    rw [hx, judgeStop, h.onGroup_eq, State.group_dequeue]
    refine ⟨fun hs => ?_, fun hs => ?_, fun hs => ?_⟩
    · have hrun : (s.group g).state.running = true := by rcases hs with h | h <;> simp [h, GState.running]
      have hlive : (s.group g).state.live = true := by rcases hs with h | h <;> simp [h, GState.live]
      rcases (s.group g).stopRun_cases with ⟨-, he⟩ | ⟨hn, -⟩
      · rw [if_pos hlive, he]; rfl
      · simp [hrun] at hn
    · rcases (s.group g).stopRun_cases with ⟨hn, -⟩ | ⟨-, he⟩
      · simp [hs, GState.running] at hn
      · rw [if_pos (by simp [hs, GState.live]), he, State.takeOn, hstay]
    · have hlive : (s.group g).state.live = false := by
        revert hs
        cases (s.group g).state <;> simp [GState.live]
      rw [if_neg (by simp [hlive])]
  · have hx : exec .abort s = .next (s.carryOut p q (judgeAbort p q (s.dequeue p))) := exec_asks .abort h rfl rfl
    rw [hx, judgeAbort, h.onGroup_eq, State.group_dequeue]
    refine ⟨fun hs => ?_, fun hs => ?_, fun hs => ?_, fun hs => ?_, fun hs => ?_⟩
    · have ha : (s.group g).abortRun = some parked := by
        simp only [List.mem_cons, List.not_mem_nil, or_false] at hs
        rcases hs with h | h | h <;> simp only [Group.abortRun, h, hp]
      rw [ha]; rfl
    · have ha : (s.group g).abortRun = some rested := by simp only [Group.abortRun, hs, hr]
      rw [ha]; rfl
    · have ha : (s.group g).abortRun = some faulted := by simp only [Group.abortRun, hs, hf]
      rw [ha]; rfl
    · have ha : (s.group g).abortRun = some (s.group g) := by simp only [Group.abortRun, hs]
      simp only [ha, State.takeOn, hstay]
    · have ha : (s.group g).abortRun = none := by
        simp only [List.mem_cons, List.not_mem_nil, or_false] at hs
        rcases hs with h | h | h <;> simp only [Group.abortRun, h]
      rw [ha]

end Sys2Proof.Machine
end

section
/-! The writes that replace one value or one record: WRITE_PORT_POLICY, SET_RATE, SET_LEVEL and SET_ALERT_MASK (R7,
R26, R36, R156), and WRITE_GROUP_CONFIG (R29). -/

namespace Sys2Proof.Machine

/-! ## Codes -/

theorem portOf_none {n : Nat} (h : 2 ≤ n) : portOf n = none := by
  match n, h with
  | _ + 2, _ => rfl

theorem admissionOf_none {n : Nat} (h : 3 ≤ n) : admissionOf n = none := by
  match n, h with
  | _ + 3, _ => rfl

theorem modeOf_none {n : Nat} (h : 4 ≤ n) : modeOf n = none := by
  match n, h with
  | _ + 4, _ => rfl

theorem actionOf_none {n : Nat} (h : 3 ≤ n) : actionOf n = none := by
  match n, h with
  | _ + 3, _ => rfl

theorem portOf_le_one {n : Nat} (h : n ≤ 1) : ∃ p : Port, portOf n = some p := by
  interval_cases n
  · exact ⟨.a, rfl⟩
  · exact ⟨.b, rfl⟩

@[simp] theorem admissionOf_code (a : Admission) : admissionOf a.code = some a := by cases a <;> rfl

@[simp] theorem modeOf_code (m : Mode) : modeOf m.code = some m := by cases m <;> rfl

@[simp] theorem actionOf_code (a : Action) : actionOf a.code = some a := by cases a <;> rfl

@[simp] theorem rateOf_hertz (r : Rate) : rateOf r.hertz = some r := by cases r <;> rfl

theorem rateOf_some {n : Nat} {r : Rate} (h : rateOf n = some r) : r.hertz = n := by
  unfold rateOf at h
  split at h <;> cases h <;> rfl

theorem streamTagOk_iff (t : Nat) : t = 0 ∨ streamTagOk t = true ↔ t ≤ 0xFEF := by
  simp only [streamTagOk, Bool.and_eq_true, decide_eq_true_eq]
  omega

theorem State.allIdle_iff (s : State) : s.allIdle = true ↔ ∀ g : GroupIx, (s.group g).state = .idle := by
  simp only [State.allIdle, List.all_eq_true, decide_eq_true_eq]
  exact ⟨fun h g => h g (by fin_cases g <;> simp [groupList]), fun h g _ => h g⟩

/-- A word selects fault kinds alone when bit 0 and bits 11 to 15 are clear (R175). -/
theorem kindSetOk_iff (w : BitVec 16) :
    kindSetOk w = true ↔ ∀ i : Fin 16, (i.val = 0 ∨ 11 ≤ i.val) → w.getLsbD i.val = false := by
  have hmask : ∀ i : Fin 16, (0xF801#16).getLsbD i.val = decide (i.val = 0 ∨ 11 ≤ i.val) := by decide
  simp only [kindSetOk, beq_iff_eq]
  constructor
  · intro h i hi
    have hb := congrArg (fun v => v.getLsbD i.val) h
    rw [BitVec.getLsbD_and, hmask, decide_eq_true hi] at hb
    simpa using hb
  · intro h
    refine BitVec.eq_of_getLsbD_eq fun i hi => ?_
    rw [BitVec.getLsbD_and, hmask ⟨i, hi⟩]
    by_cases hk : i = 0 ∨ 11 ≤ i
    · simp [h ⟨i, hi⟩ hk]
    · simp [hk]

/-! ## Single values -/

section Single

variable {s : State} {p : Port} {q : Request}

theorem writePortPolicy_asks {c a th tl : Byte} (h : s.Asks p q .map 4 [c, a, th, tl]) :
    (2 ≤ c.toNat → exec .writePortPolicy s = .next (s.carryOut p q (.refuse .badIndex)))
      ∧ (c.toNat ≤ 1 → (3 ≤ a.toNat ∨ 0xFEF < (th ++ tl).toNat) →
          exec .writePortPolicy s = .next (s.carryOut p q (.refuse .badValue)))
      ∧ ∀ (r : Port) (ad : Admission), portCode r = c.toNat → ad.code = a.toNat → (th ++ tl).toNat ≤ 0xFEF →
          exec .writePortPolicy s = .next (s.carryOut p q (.take false [] ((s.dequeue p).modPort r fun x =>
            { x with policy := { policy := ad, defaultTag := BitVec.ofNat 12 (th ++ tl).toNat } }))) := by
  have hx : exec .writePortPolicy s = .next (s.carryOut p q (judgeWritePortPolicy p q (s.dequeue p))) :=
    exec_asks .writePortPolicy h rfl rfl
  have h0 : natAt8 q.operands 0 = c.toNat := by rw [h.2.2.2]; rfl
  have h1 : natAt8 q.operands 1 = a.toNat := by rw [h.2.2.2]; rfl
  have h2 : natAt16 q.operands 2 = (th ++ tl).toNat := by rw [h.2.2.2]; rfl
  simp only [hx, judgeWritePortPolicy, h0, h1, h2, streamTagOk_iff]
  refine ⟨fun hc => by rw [portOf_none hc], fun hc hbad => ?_, fun r ad hr had ht => ?_⟩
  · obtain ⟨r, hr⟩ := portOf_le_one hc
    rw [hr]
    dsimp only
    rcases hbad with ha | ht
    · rw [admissionOf_none ha]
    · cases admissionOf a.toNat with
      | none => rfl
      | some ad => dsimp only; rw [if_neg (Nat.not_le.mpr ht)]
  · rw [← hr, ← had, portOf_portCode, admissionOf_code]
    dsimp only
    rw [if_pos ht]

theorem setRate_asks {hi lo : Byte} (h : s.Asks p q .setup 7 [hi, lo]) :
    ((∃ g : GroupIx, (s.group g).state ≠ .idle) →
        exec .setRate s = .next (s.carryOut p q (.refuse .wrongState)))
      ∧ ((∀ g : GroupIx, (s.group g).state = .idle) →
        (∀ r : Rate, r.hertz = (hi ++ lo).toNat →
          exec .setRate s = .next (s.carryOut p q (.take false [] { s.dequeue p with rate := r })))
        ∧ ((∀ r : Rate, r.hertz ≠ (hi ++ lo).toNat) →
          exec .setRate s = .next (s.carryOut p q (.refuse .badValue)))) := by
  have hx : exec .setRate s = .next (s.carryOut p q (judgeSetRate p q (s.dequeue p))) :=
    exec_asks .setRate h rfl rfl
  have h0 : natAt16 q.operands 0 = (hi ++ lo).toNat := by rw [h.2.2.2]; rfl
  simp only [hx, judgeSetRate, h0, State.allIdle_iff, State.group_dequeue]
  refine ⟨fun hw => by rw [if_neg (by simpa using hw)], fun hall => ?_⟩
  rw [if_pos hall]
  refine ⟨fun r hr => by rw [← hr, rateOf_hertz], fun hn => ?_⟩
  rcases ho : rateOf (hi ++ lo).toNat with _ | r
  · rfl
  · exact absurd (rateOf_some ho) (hn r)

theorem setLevel_asks {g : GroupIx} {hi lo : Byte} (h : s.Asks p q .run 6 [BitVec.ofNat 8 g.val, hi, lo]) :
    exec .setLevel s = .next (s.carryOut p q (.take (decide (4096 < (hi ++ lo).toNat)) []
      ((s.dequeue p).setGroup g { s.group g with level := min 4096 (hi ++ lo).toNat }))) := by
  have hx : exec .setLevel s = .next (s.carryOut p q (judgeSetLevel p q (s.dequeue p))) :=
    exec_asks .setLevel h rfl rfl
  have h1 : natAt16 q.operands 1 = (hi ++ lo).toNat := by rw [h.2.2.2]; rfl
  rw [hx, judgeSetLevel, h.onGroup_eq]
  simp only [h1, State.modGroup, State.group_dequeue, Config.fullScale, Nat.min_comm]

theorem setAlertMask_asks {hi lo : Byte} (h : s.Asks p q .fault 3 [hi, lo]) :
    ((∃ i : Fin 16, (i.val = 0 ∨ 11 ≤ i.val) ∧ (hi ++ lo).getLsbD i.val = true) →
        exec .setAlertMask s = .next (s.carryOut p q (.refuse .badValue)))
      ∧ ((∀ i : Fin 16, (i.val = 0 ∨ 11 ≤ i.val) → (hi ++ lo).getLsbD i.val = false) →
        exec .setAlertMask s = .next (s.carryOut p q (.take false []
          { s.dequeue p with alertMask := hi ++ lo }.driveLines))) := by
  have hx : exec .setAlertMask s = .next (s.carryOut p q (judgeSetAlertMask p q (s.dequeue p))) :=
    exec_asks .setAlertMask h rfl rfl
  have h0 : wordAt q.operands 0 = hi ++ lo := by rw [h.2.2.2]; rfl
  simp only [hx, judgeSetAlertMask, h0, kindSetOk_iff]
  refine ⟨fun ⟨i, hi, hb⟩ => ?_, fun hall => by rw [if_pos hall]⟩
  rw [if_neg]
  intro hall
  rw [hall i hi] at hb
  cases hb

end Single

/-- Settles O32, each request by the order of its checks. -/
theorem singleValueWrites : Obligations.SingleValueWrites := fun _ _ _ =>
  ⟨fun _ _ _ _ h => writePortPolicy_asks h, fun _ _ h => setRate_asks h, fun _ _ _ h => setLevel_asks h,
    fun _ _ h => setAlertMask_asks h⟩

/-! ## The bytes of a record -/

theorem out8_append_inj {x y : Nat} (hx : x ≤ 255) (hy : y ≤ 255) {xs ys : List Byte}
    (h : out8 x ++ xs = out8 y ++ ys) : x = y ∧ xs = ys := by
  simp only [out8, List.cons_append, List.nil_append, List.cons.injEq] at h
  have hn := congrArg BitVec.toNat h.1
  simp only [BitVec.toNat_ofNat] at hn
  exact ⟨by omega, h.2⟩

theorem outWord_append_inj {x y : BitVec 16} {xs ys : List Byte} (h : outWord x ++ xs = outWord y ++ ys) :
    x = y ∧ xs = ys := by
  simp only [outWord, List.cons_append, List.nil_append, List.cons.injEq] at h
  obtain ⟨hhi, hlo, hrest⟩ := h
  refine ⟨BitVec.eq_of_toNat_eq ?_, hrest⟩
  have h1 := congrArg BitVec.toNat hhi
  have h2 := congrArg BitVec.toNat hlo
  simp only [BitVec.extractLsb'_toNat, Nat.shiftRight_eq_div_pow] at h1 h2
  omega

theorem out16_append_inj {x y : Nat} (hx : x ≤ 65535) (hy : y ≤ 65535) {xs ys : List Byte}
    (h : out16 x ++ xs = out16 y ++ ys) : x = y ∧ xs = ys := by
  obtain ⟨hw, hr⟩ := outWord_append_inj h
  have hn := congrArg BitVec.toNat hw
  simp only [BitVec.toNat_ofNat] at hn
  exact ⟨by omega, hr⟩

theorem out32_append_inj {x y : Nat} (hx : x ≤ 4294967295) (hy : y ≤ 4294967295) {xs ys : List Byte}
    (h : out32 x ++ xs = out32 y ++ ys) : x = y ∧ xs = ys := by
  simp only [out32, List.append_assoc] at h
  obtain ⟨hhi, h⟩ := out16_append_inj (by omega) (by omega) h
  obtain ⟨hlo, hr⟩ := outWord_append_inj h
  have hn := congrArg BitVec.toNat hlo
  simp only [BitVec.toNat_ofNat] at hn
  exact ⟨by omega, hr⟩

/-- A list from an offset on is the byte there and the rest. -/
theorem drop_out8 {bs : List Byte} {i : Nat} (h : i < bs.length) :
    bs.drop i = out8 (natAt8 bs i) ++ bs.drop (i + 1) := by
  rw [List.drop_eq_getElem_cons h]
  simp [out8, natAt8, byteAt, List.getD_eq_getElem?_getD, h]

theorem outWord_append (a b : Byte) : outWord (a ++ b) = [a, b] := by
  have hhi : (a ++ b).extractLsb' 8 8 = a := by
    refine BitVec.eq_of_getLsbD_eq fun i hi => ?_
    rw [BitVec.getLsbD_extractLsb']
    exact (congrArg _ BitVec.getLsbD_append).trans (by simp [hi])
  have hlo : (a ++ b).extractLsb' 0 8 = b := by
    refine BitVec.eq_of_getLsbD_eq fun i hi => ?_
    rw [BitVec.getLsbD_extractLsb']
    exact (congrArg _ BitVec.getLsbD_append).trans (by simp [hi])
  rw [outWord, hhi, hlo]

/-- A list from an offset on is the two-byte field there and the rest. -/
theorem drop_out16 {bs : List Byte} {i : Nat} (h : i + 1 < bs.length) :
    bs.drop i = out16 (natAt16 bs i) ++ bs.drop (i + 2) := by
  have hi : i < bs.length := by omega
  rw [List.drop_eq_getElem_cons hi, List.drop_eq_getElem_cons h]
  simp [out16, natAt16, wordAt, outWord_append, byteAt, List.getD_eq_getElem?_getD, h, hi]

/-- A list from an offset on is the four-byte field there and the rest. -/
theorem drop_out32 {bs : List Byte} {i : Nat} (h : i + 3 < bs.length) :
    bs.drop i = out32 (natAt32 bs i) ++ bs.drop (i + 4) := by
  have hl := natAt16_le bs (i + 2)
  have hdiv : natAt32 bs i / 65536 = natAt16 bs i := by unfold natAt32; omega
  have hmod : out16 (natAt32 bs i) = out16 (natAt16 bs (i + 2)) := by
    unfold out16
    congr 1
    apply BitVec.eq_of_toNat_eq
    simp only [BitVec.toNat_ofNat, natAt32]
    omega
  rw [out32, hdiv, hmod, drop_out16 (by omega), drop_out16 (i := i + 2) (by omega), List.append_assoc]

end Sys2Proof.Machine
end

section
/-! WRITE_GROUP_CONFIG (R29): the record that the operands carry, the record that is stored in its place, and when
the two differ. -/

namespace Sys2Proof.Machine

/-! ## The record carried and the record stored -/

/-- The record that 33 operand bytes carry, before any number is replaced. -/
def carriedConfig (bs : List Byte) (m : Fin 5 → Mode) (a : Fin 5 → Action) (tp : Port) : GroupConfig :=
  { fadeStep := natAt16 bs 1, parkStep := natAt16 bs 3, prefill := natAt8 bs 5, starveLimit := natAt8 bs 6,
    gapFill := natAt8 bs 7, fbLimit := natAt8 bs 8, clampLimit := natAt8 bs 9, retryTime := natAt16 bs 10,
    retryLimit := natAt8 bs 12, starve := ⟨m 0, a 0⟩, seqBreak := ⟨m 1, a 1⟩, fbLoss := ⟨m 2, a 2⟩,
    clampPersist := ⟨m 3, a 3⟩, watchdog := ⟨m 4, a 4⟩, flowLimit := natAt32 bs 23, attStep := natAt16 bs 27,
    attFloor := natAt16 bs 29, telemK := natAt8 bs 31, telemPort := tp }

/-- A treatment as it is stored (R29). -/
def Treatment.stored (t : Treatment) : Treatment := { mode := t.mode, action := storedAction t.mode t.action }

/-- A record as it is stored: every number in its range, and no RETRY with HOLD (R29, steps 3 and 4). -/
def GroupConfig.stored (c : GroupConfig) : GroupConfig :=
  { fadeStep := within 1 4096 c.fadeStep, parkStep := within 1 4096 c.parkStep, prefill := within 0 64 c.prefill,
    starveLimit := within 1 255 c.starveLimit, gapFill := within 0 8 c.gapFill, fbLimit := within 1 255 c.fbLimit,
    clampLimit := c.clampLimit, retryTime := within 1 65535 c.retryTime, retryLimit := within 0 15 c.retryLimit,
    starve := c.starve.stored, seqBreak := c.seqBreak.stored, fbLoss := c.fbLoss.stored,
    clampPersist := c.clampPersist.stored, watchdog := c.watchdog.stored,
    flowLimit := within 0 2147483647 c.flowLimit, attStep := within 1 4096 c.attStep,
    attFloor := within 0 4096 c.attFloor, telemK := c.telemK, telemPort := c.telemPort }

theorem within_eq_self {lo hi n : Nat} (h : lo ≤ hi) : within lo hi n = n ↔ lo ≤ n ∧ n ≤ hi := by
  unfold within
  omega

theorem storedAction_eq (m : Mode) (a : Action) :
    storedAction m a = if m = .retry ∧ a = .hold then .park else a := by
  cases m <;> cases a <;> rfl

theorem Treatment.stored_eq_self (t : Treatment) : t.stored = t ↔ ¬ (t.mode = .retry ∧ t.action = .hold) := by
  cases t with
  | mk m a => cases m <;> cases a <;> decide

/-- A record is stored as it is carried exactly when every number lies in its range and no treatment is RETRY with
HOLD (R28, R29). -/
theorem GroupConfig.stored_eq_self (c : GroupConfig) : c.stored = c ↔
    (1 ≤ c.fadeStep ∧ c.fadeStep ≤ 4096) ∧ (1 ≤ c.parkStep ∧ c.parkStep ≤ 4096) ∧ c.prefill ≤ 64
      ∧ (1 ≤ c.starveLimit ∧ c.starveLimit ≤ 255) ∧ c.gapFill ≤ 8 ∧ (1 ≤ c.fbLimit ∧ c.fbLimit ≤ 255)
      ∧ (1 ≤ c.retryTime ∧ c.retryTime ≤ 65535) ∧ c.retryLimit ≤ 15 ∧ (c.starve.Law ∧ c.seqBreak.Law ∧ c.fbLoss.Law
      ∧ c.clampPersist.Law ∧ c.watchdog.Law) ∧ c.flowLimit ≤ 2147483647 ∧ (1 ≤ c.attStep ∧ c.attStep ≤ 4096)
      ∧ c.attFloor ≤ 4096 := by
  cases c
  simp [GroupConfig.stored, within_eq_self, Treatment.stored_eq_self, and_assoc]

/-! ## The operand sequence -/

/-- A record's numbers within the widths of their operand fields. -/
abbrev GroupConfig.Fits (c : GroupConfig) : Prop :=
  c.fadeStep ≤ 65535 ∧ c.parkStep ≤ 65535 ∧ c.prefill ≤ 255 ∧ c.starveLimit ≤ 255 ∧ c.gapFill ≤ 255
    ∧ c.fbLimit ≤ 255 ∧ c.clampLimit ≤ 255 ∧ c.retryTime ≤ 65535 ∧ c.retryLimit ≤ 255
    ∧ c.flowLimit ≤ 4294967295 ∧ c.attStep ≤ 65535 ∧ c.attFloor ≤ 65535 ∧ c.telemK ≤ 255

theorem natAt32_le (bs : List Byte) (i : Nat) : natAt32 bs i ≤ 4294967295 := by
  have h1 := natAt16_le bs i
  have h2 := natAt16_le bs (i + 2)
  unfold natAt32
  omega

theorem carriedConfig_fits (bs : List Byte) (m : Fin 5 → Mode) (a : Fin 5 → Action) (tp : Port) :
    (carriedConfig bs m a tp).Fits :=
  ⟨natAt16_le _ _, natAt16_le _ _, natAt8_le _ _, natAt8_le _ _, natAt8_le _ _, natAt8_le _ _, natAt8_le _ _,
    natAt16_le _ _, natAt8_le _ _, natAt32_le _ _, natAt16_le _ _, natAt16_le _ _, natAt8_le _ _⟩

theorem GroupConfig.stored_fits {c : GroupConfig} (h : c.Fits) : c.stored.Fits := by
  simp only [GroupConfig.Fits, GroupConfig.stored, within] at h ⊢
  omega

/-- The operand sequence of a record, field after field (R176). -/
theorem configPayload_eq (g : GroupIx) (c : GroupConfig) : configPayload g c =
    out8 g.val ++ (out16 c.fadeStep ++ (out16 c.parkStep ++ (out8 c.prefill ++ (out8 c.starveLimit
      ++ (out8 c.gapFill ++ (out8 c.fbLimit ++ (out8 c.clampLimit ++ (out16 c.retryTime ++ (out8 c.retryLimit
      ++ (out8 c.starve.mode.code ++ (out8 c.starve.action.code ++ (out8 c.seqBreak.mode.code
      ++ (out8 c.seqBreak.action.code ++ (out8 c.fbLoss.mode.code ++ (out8 c.fbLoss.action.code
      ++ (out8 c.clampPersist.mode.code ++ (out8 c.clampPersist.action.code ++ (out8 c.watchdog.mode.code
      ++ (out8 c.watchdog.action.code ++ (out32 c.flowLimit ++ (out16 c.attStep ++ (out16 c.attFloor
      ++ (out8 c.telemK ++ (out8 (portCode c.telemPort) ++ [])))))))))))))))))))))))) := by
  unfold configPayload
  dsimp only
  simp only [List.append_assoc, List.append_nil]

theorem treatment_append_inj {t u : Treatment} {xs ys : List Byte}
    (h : out8 t.mode.code ++ (out8 t.action.code ++ xs) = out8 u.mode.code ++ (out8 u.action.code ++ ys)) :
    t = u ∧ xs = ys := by
  have hm (v : Mode) : v.code ≤ 255 := by cases v <;> decide
  have ha (v : Action) : v.code ≤ 255 := by cases v <;> decide
  obtain ⟨h1, h⟩ := out8_append_inj (hm _) (hm _) h
  obtain ⟨h2, h⟩ := out8_append_inj (ha _) (ha _) h
  have hmode : t.mode = u.mode := Option.some.inj (by rw [← modeOf_code, h1, modeOf_code])
  have haction : t.action = u.action := Option.some.inj (by rw [← actionOf_code, h2, actionOf_code])
  refine ⟨?_, h⟩
  cases t
  cases u
  simp_all

/-- Two records are equal when their nineteen fields are. -/
theorem GroupConfig.ext_fields {c d : GroupConfig}
    (h1 : c.fadeStep = d.fadeStep ∧ c.parkStep = d.parkStep ∧ c.prefill = d.prefill ∧ c.starveLimit = d.starveLimit
      ∧ c.gapFill = d.gapFill ∧ c.fbLimit = d.fbLimit ∧ c.clampLimit = d.clampLimit ∧ c.retryTime = d.retryTime
      ∧ c.retryLimit = d.retryLimit)
    (h2 : c.starve = d.starve ∧ c.seqBreak = d.seqBreak ∧ c.fbLoss = d.fbLoss ∧ c.clampPersist = d.clampPersist
      ∧ c.watchdog = d.watchdog)
    (h3 : c.flowLimit = d.flowLimit ∧ c.attStep = d.attStep ∧ c.attFloor = d.attFloor ∧ c.telemK = d.telemK
      ∧ c.telemPort = d.telemPort) : c = d := by
  cases c
  cases d
  simp_all

/-- Records that fit their fields and have the same operand sequence are the same record. -/
theorem configPayload_inj {g : GroupIx} {c d : GroupConfig} (hc : c.Fits) (hd : d.Fits)
    (h : configPayload g c = configPayload g d) : c = d := by
  obtain ⟨c1, c2, c3, c4, c5, c6, c7, c8, c9, c10, c11, c12, c13⟩ := hc
  obtain ⟨d1, d2, d3, d4, d5, d6, d7, d8, d9, d10, d11, d12, d13⟩ := hd
  have hp : portCode c.telemPort ≤ 255 := by cases c.telemPort <;> decide
  have hp' : portCode d.telemPort ≤ 255 := by cases d.telemPort <;> decide
  have hg : g.val ≤ 255 := by omega
  rw [configPayload_eq, configPayload_eq] at h
  obtain ⟨-, h⟩ := out8_append_inj hg hg h
  obtain ⟨e1, h⟩ := out16_append_inj c1 d1 h
  obtain ⟨e2, h⟩ := out16_append_inj c2 d2 h
  obtain ⟨e3, h⟩ := out8_append_inj c3 d3 h
  obtain ⟨e4, h⟩ := out8_append_inj c4 d4 h
  obtain ⟨e5, h⟩ := out8_append_inj c5 d5 h
  obtain ⟨e6, h⟩ := out8_append_inj c6 d6 h
  obtain ⟨e7, h⟩ := out8_append_inj c7 d7 h
  obtain ⟨e8, h⟩ := out16_append_inj c8 d8 h
  obtain ⟨e9, h⟩ := out8_append_inj c9 d9 h
  obtain ⟨f1, h⟩ := treatment_append_inj h
  obtain ⟨f2, h⟩ := treatment_append_inj h
  obtain ⟨f3, h⟩ := treatment_append_inj h
  obtain ⟨f4, h⟩ := treatment_append_inj h
  obtain ⟨f5, h⟩ := treatment_append_inj h
  obtain ⟨e10, h⟩ := out32_append_inj c10 d10 h
  obtain ⟨e11, h⟩ := out16_append_inj c11 d11 h
  obtain ⟨e12, h⟩ := out16_append_inj c12 d12 h
  obtain ⟨e13, h⟩ := out8_append_inj c13 d13 h
  obtain ⟨e14, -⟩ := out8_append_inj hp hp' h
  have hport : c.telemPort = d.telemPort := Option.some.inj (by rw [← portOf_portCode, e14, portOf_portCode])
  exact GroupConfig.ext_fields ⟨e1, e2, e3, e4, e5, e6, e7, e8, e9⟩ ⟨f1, f2, f3, f4, f5⟩ ⟨e10, e11, e12, e13, hport⟩

section Operands

variable {bs : List Byte} {m : Fin 5 → Mode} {a : Fin 5 → Action} {tp : Port} {g : GroupIx}

/-- The operands are the operand sequence of the record they carry. -/
theorem configPayload_carried (hl : bs.length = 33) (hg : byteAt bs 0 = BitVec.ofNat 8 g.val)
    (hc : ∀ i : Fin 5, (m i).code = natAt8 bs (13 + 2 * i.val) ∧ (a i).code = natAt8 bs (14 + 2 * i.val))
    (hp : portCode tp = natAt8 bs 32) : configPayload g (carriedConfig bs m a tp) = bs := by
  have h0 : out8 g.val = out8 (natAt8 bs 0) := by rw [out8, out8, natAt8, hg, BitVec.ofNat_toNat, BitVec.setWidth_eq]
  have hend : bs.drop 33 = [] := List.drop_eq_nil_of_le (by omega)
  have hbs : bs = bs.drop 0 := rfl
  obtain ⟨m0, a0⟩ : (m 0).code = natAt8 bs 13 ∧ (a 0).code = natAt8 bs 14 := hc 0
  obtain ⟨m1, a1⟩ : (m 1).code = natAt8 bs 15 ∧ (a 1).code = natAt8 bs 16 := hc 1
  obtain ⟨m2, a2⟩ : (m 2).code = natAt8 bs 17 ∧ (a 2).code = natAt8 bs 18 := hc 2
  obtain ⟨m3, a3⟩ : (m 3).code = natAt8 bs 19 ∧ (a 3).code = natAt8 bs 20 := hc 3
  obtain ⟨m4, a4⟩ : (m 4).code = natAt8 bs 21 ∧ (a 4).code = natAt8 bs 22 := hc 4
  refine Eq.trans ?_ hbs.symm
  rw [drop_out8 (i := 0) (by omega), drop_out16 (i := 1) (by omega), drop_out16 (i := 3) (by omega),
    drop_out8 (i := 5) (by omega), drop_out8 (i := 6) (by omega), drop_out8 (i := 7) (by omega),
    drop_out8 (i := 8) (by omega), drop_out8 (i := 9) (by omega), drop_out16 (i := 10) (by omega),
    drop_out8 (i := 12) (by omega), drop_out8 (i := 13) (by omega), drop_out8 (i := 14) (by omega),
    drop_out8 (i := 15) (by omega), drop_out8 (i := 16) (by omega), drop_out8 (i := 17) (by omega),
    drop_out8 (i := 18) (by omega), drop_out8 (i := 19) (by omega), drop_out8 (i := 20) (by omega),
    drop_out8 (i := 21) (by omega), drop_out8 (i := 22) (by omega), drop_out32 (i := 23) (by omega),
    drop_out16 (i := 27) (by omega), drop_out16 (i := 29) (by omega), drop_out8 (i := 31) (by omega),
    drop_out8 (i := 32) (by omega), hend]
  simp only [configPayload_eq, carriedConfig, h0, m0, a0, m1, a1, m2, a2, m3, a3, m4, a4, hp]

/-- The record stored, field by field (R28, R29). -/
theorem carriedConfig_stored (bs : List Byte) (m : Fin 5 → Mode) (a : Fin 5 → Action) (tp : Port) :
    (carriedConfig bs m a tp).stored =
      { fadeStep := max 1 (min 4096 (natAt16 bs 1)), parkStep := max 1 (min 4096 (natAt16 bs 3)),
        prefill := min 64 (natAt8 bs 5), starveLimit := max 1 (natAt8 bs 6), gapFill := min 8 (natAt8 bs 7),
        fbLimit := max 1 (natAt8 bs 8), clampLimit := natAt8 bs 9, retryTime := max 1 (natAt16 bs 10),
        retryLimit := min 15 (natAt8 bs 12), starve := Treatment.stored ⟨m 0, a 0⟩,
        seqBreak := Treatment.stored ⟨m 1, a 1⟩, fbLoss := Treatment.stored ⟨m 2, a 2⟩,
        clampPersist := Treatment.stored ⟨m 3, a 3⟩, watchdog := Treatment.stored ⟨m 4, a 4⟩,
        flowLimit := min 2147483647 (natAt32 bs 23), attStep := max 1 (min 4096 (natAt16 bs 27)),
        attFloor := min 4096 (natAt16 bs 29), telemK := natAt8 bs 31, telemPort := tp } := by
  have h6 := natAt8_le bs 6
  have h8 := natAt8_le bs 8
  have h10 := natAt16_le bs 10
  simp only [GroupConfig.stored, carriedConfig, within, Nat.zero_max, Nat.min_eq_right h6, Nat.min_eq_right h8,
    Nat.min_eq_right h10]

/-- When the record stored differs from the record carried (R29). -/
theorem carriedConfig_stored_ne (bs : List Byte) (m : Fin 5 → Mode) (a : Fin 5 → Action) (tp : Port) :
    ¬ (carriedConfig bs m a tp).stored = carriedConfig bs m a tp ↔
      natAt16 bs 1 = 0 ∨ 4096 < natAt16 bs 1 ∨ natAt16 bs 3 = 0 ∨ 4096 < natAt16 bs 3 ∨ 64 < natAt8 bs 5
        ∨ natAt8 bs 6 = 0 ∨ 8 < natAt8 bs 7 ∨ natAt8 bs 8 = 0 ∨ natAt16 bs 10 = 0 ∨ 15 < natAt8 bs 12
        ∨ 2147483647 < natAt32 bs 23 ∨ natAt16 bs 27 = 0 ∨ 4096 < natAt16 bs 27 ∨ 4096 < natAt16 bs 29
        ∨ ∃ i : Fin 5, m i = .retry ∧ a i = .hold := by
  have h6 := natAt8_le bs 6
  have h8 := natAt8_le bs 8
  have h10 := natAt16_le bs 10
  have ht : (Treatment.Law ⟨m 0, a 0⟩ ∧ Treatment.Law ⟨m 1, a 1⟩ ∧ Treatment.Law ⟨m 2, a 2⟩
      ∧ Treatment.Law ⟨m 3, a 3⟩ ∧ Treatment.Law ⟨m 4, a 4⟩) ↔ ¬ ∃ i : Fin 5, m i = .retry ∧ a i = .hold := by
    rw [not_exists, Fin.forall_fin_succ, Fin.forall_fin_succ, Fin.forall_fin_succ, Fin.forall_fin_succ,
      Fin.forall_fin_one]
    rfl
  rw [GroupConfig.stored_eq_self]
  simp only [carriedConfig, ht]
  by_cases hr : ∃ i : Fin 5, m i = .retry ∧ a i = .hold
  · simp only [hr, not_true_eq_false, false_and, and_false, not_false_eq_true, or_true]
  · simp only [hr, not_false_eq_true, true_and, or_false]
    omega

theorem treatmentAt_codes {i : Nat} {mi : Mode} {ai : Action} (hm : mi.code = natAt8 bs i)
    (ha : ai.code = natAt8 bs (i + 1)) : treatmentAt bs i = some (Treatment.stored ⟨mi, ai⟩) := by
  simp [treatmentAt, ← hm, ← ha, Treatment.stored]

/-- Operands whose codes are known are stored as the record they carry asks. -/
theorem groupConfigOf_carried
    (hc : ∀ i : Fin 5, (m i).code = natAt8 bs (13 + 2 * i.val) ∧ (a i).code = natAt8 bs (14 + 2 * i.val))
    (hp : portCode tp = natAt8 bs 32) : groupConfigOf bs = some (carriedConfig bs m a tp).stored := by
  have h0 : treatmentAt bs 13 = some (Treatment.stored ⟨m 0, a 0⟩) := treatmentAt_codes (hc 0).1 (hc 0).2
  have h1 : treatmentAt bs 15 = some (Treatment.stored ⟨m 1, a 1⟩) := treatmentAt_codes (hc 1).1 (hc 1).2
  have h2 : treatmentAt bs 17 = some (Treatment.stored ⟨m 2, a 2⟩) := treatmentAt_codes (hc 2).1 (hc 2).2
  have h3 : treatmentAt bs 19 = some (Treatment.stored ⟨m 3, a 3⟩) := treatmentAt_codes (hc 3).1 (hc 3).2
  have h4 : treatmentAt bs 21 = some (Treatment.stored ⟨m 4, a 4⟩) := treatmentAt_codes (hc 4).1 (hc 4).2
  rw [groupConfigOf, h0, h1, h2, h3, h4, ← hp, portOf_portCode]
  rfl

theorem treatmentAt_none {i : Nat} (h : 4 ≤ natAt8 bs i ∨ 3 ≤ natAt8 bs (i + 1)) : treatmentAt bs i = none := by
  rcases h with h | h
  · simp [treatmentAt, modeOf_none h]
  · rw [treatmentAt, actionOf_none h]
    cases modeOf (natAt8 bs i) <;> rfl

/-- Operands with a code that no mode, action or port has are refused (R29). -/
theorem groupConfigOf_none
    (h : (∃ i ∈ [13, 15, 17, 19, 21], 4 ≤ natAt8 bs i ∨ 3 ≤ natAt8 bs (i + 1)) ∨ 2 ≤ natAt8 bs 32) :
    groupConfigOf bs = none := by
  unfold groupConfigOf
  split
  · next h1 h2 h3 h4 h5 hp =>
    rcases h with ⟨i, hi, hc⟩ | hp'
    · have hn := treatmentAt_none hc
      simp only [List.mem_cons, List.not_mem_nil, or_false] at hi
      rcases hi with rfl | rfl | rfl | rfl | rfl <;> simp_all
    · simp [portOf_none hp'] at hp
  · rfl

end Operands

/-! ## The request -/

section Asked

variable {s : State} {p : Port} {q : Request} {g : GroupIx} {bs : List Byte}

theorem writeGroupConfig_asks (h : s.Asks p q .setup 5 bs) (hl : bs.length = 33) :
    exec .writeGroupConfig s = .next (s.carryOut p q (judgeWriteGroupConfig p q (s.dequeue p))) :=
  exec_asks .writeGroupConfig h rfl hl

theorem judgeWriteGroupConfig_running (hq : q.operands = bs) (hg : indexOf 4 (natAt8 bs 0) = some g)
    (hs : (s.group g).state ≠ .idle) : judgeWriteGroupConfig p q s = .refuse .wrongState := by
  unfold judgeWriteGroupConfig
  rw [hq, hg]
  dsimp only
  rw [if_pos hs]

theorem judgeWriteGroupConfig_refused (hq : q.operands = bs) (hg : indexOf 4 (natAt8 bs 0) = some g)
    (hs : (s.group g).state = .idle) (hc : groupConfigOf bs = none) :
    judgeWriteGroupConfig p q s = .refuse .badValue := by
  unfold judgeWriteGroupConfig
  rw [hq, hg]
  dsimp only
  rw [if_neg (by simp [hs]), hc]

theorem judgeWriteGroupConfig_taken {c : GroupConfig} (hq : q.operands = bs)
    (hg : indexOf 4 (natAt8 bs 0) = some g) (hs : (s.group g).state = .idle) (hc : groupConfigOf bs = some c) :
    judgeWriteGroupConfig p q s =
      .take (configPayload g c != bs) [] (s.setGroup g ((s.group g).configure c)) := by
  unfold judgeWriteGroupConfig
  rw [hq, hg]
  dsimp only
  rw [if_neg (by simp [hs]), hc]
  rfl

end Asked

/-- Settles O39: the record stored is the one carried with its numbers bounded, and it is answered ADJUSTED exactly
when the two differ. -/
theorem writeGroupConfigReplacesTheRecord : Obligations.WriteGroupConfigReplacesTheRecord := by
  intro s p q g bs h hl hg0
  have hq : q.operands = bs := h.2.2.2
  have hg : indexOf 4 (natAt8 bs 0) = some g := by
    rw [natAt8, hg0]
    exact indexOf_ofNat g (by decide)
  rw [writeGroupConfig_asks h hl]
  refine ⟨fun hs => ?_, fun hs => ⟨fun hbad => ?_, fun m a tp hc hp => ?_⟩⟩
  · rw [judgeWriteGroupConfig_running hq hg (by simpa using hs)]
  · rw [judgeWriteGroupConfig_refused hq hg (by simpa using hs) (groupConfigOf_none hbad)]
  · have hfit := carriedConfig_fits bs m a tp
    have hdiff : (configPayload g (carriedConfig bs m a tp).stored != bs) = true
        ↔ ¬ (carriedConfig bs m a tp).stored = carriedConfig bs m a tp := by
      rw [bne_iff_ne, Ne, not_iff_not]
      conv_lhs => rhs; rw [← configPayload_carried hl hg0 hc hp]
      exact ⟨configPayload_inj (GroupConfig.stored_fits hfit) hfit, fun he => by rw [he]⟩
    rw [judgeWriteGroupConfig_taken hq hg (by simpa using hs) (groupConfigOf_carried hc hp)]
    refine ⟨configPayload g (carriedConfig bs m a tp).stored != bs, fun i => Treatment.stored ⟨m i, a i⟩,
      fun i => by simp only [Treatment.stored, storedAction_eq], hdiff.trans (carriedConfig_stored_ne bs m a tp), ?_⟩
    rw [State.group_dequeue, carriedConfig_stored]
    rfl

end Sys2Proof.Machine
end

section
/-! POWER_ON (R167), and the steps of a playout on the group alone (R8 to R11, R77): what steps 1 to 4 leave in each
field, and the envelope with its combined factor. -/

namespace Sys2Proof.Machine

/-! ## POWER_ON -/

theorem State.fresh_group (straps : Straps) (pins : Pins) (g : GroupIx) :
    (State.fresh straps pins).group g = defaultGroup := Tab.get_fill _ g

theorem defaultGroup_chan (l : LaneIx) : defaultGroup.chans.get l = defaultChannel := Tab.get_fill _ l

/-- The default map's first four entries, with DEFMAP set (R38). -/
theorem defaultMap_corner {i : MapIx} {g : GroupIx} (h : i.val = g.val) :
    (defaultMap true).get i = { valid := true, tag := BitVec.ofNat 12 (0x100 + g.val), role := .primary, group := g,
                                laneMask := 0x3F#6, portMask := 1#2, lastTrim := none } := by
  have hi : i.val < 4 := by omega
  have hg : (⟨i.val, hi⟩ : GroupIx) = g := Fin.ext h
  rw [defaultMap, Tab.get_of, dif_pos ⟨rfl, hi⟩, hg, cornerEntry, BitVec.ofNat_add]

/-- Every other entry of the default map (R38). -/
theorem defaultMap_cleared {b : Bool} {i : MapIx} (h : b = false ∨ 4 ≤ i.val) :
    (defaultMap b).get i = clearedEntry := by
  rw [defaultMap, Tab.get_of, dif_neg]
  rintro ⟨rfl, hi⟩
  rcases h with h | h
  · cases h
  · omega

/-- Settles O3, block by block. -/
theorem powerOnGivesThePowerOnValues : Obligations.PowerOnGivesThePowerOnValues := by
  intro pins s
  refine ⟨_, rfl, rfl, rfl, rfl, rfl, rfl, rfl, rfl, rfl, ?_, ?_, ?_, ?_, ?_, rfl, ?_, ?_⟩
  · intro i g hd hi
    rw [← defaultMap_corner hi, ← hd]
    rfl
  · exact fun i h => defaultMap_cleared h
  · rfl
  · intro g
    have hg : State.group { State.fresh pins.straps pins with pending := s.pending } g = defaultGroup :=
      State.fresh_group pins.straps pins g
    rw [hg]
    have hk (k : Kind) : defaultGroup.classOf k = none := Tab.get_fill _ _
    exact ⟨rfl, rfl, rfl, rfl, rfl, rfl, rfl, rfl, rfl, rfl, rfl, rfl, rfl, rfl, rfl, rfl, hk, rfl, rfl, rfl, rfl,
      rfl, rfl, rfl, rfl, rfl⟩
  · intro g l
    have hg : State.group { State.fresh pins.straps pins with pending := s.pending } g = defaultGroup :=
      State.fresh_group pins.straps pins g
    rw [hg, defaultGroup_chan]
    exact ⟨rfl, rfl, rfl, rfl, rfl, rfl, rfl, rfl, rfl, rfl, rfl, rfl, rfl⟩
  · intro i
    have hi : (State.fresh pins.straps pins).limitSets.get i = defaultLimitSet := Tab.get_fill _ i
    have hls : ({ State.fresh pins.straps pins with pending := s.pending } : State).limitSets.get i
        = defaultLimitSet := hi
    rw [hls]
    exact ⟨by decide, by decide, rfl, rfl, fun k => by cases k <;> rfl⟩
  · intro p
    have hp : State.port { State.fresh pins.straps pins with pending := s.pending } p = defaultPort := by
      cases p <;> rfl
    rw [hp]
    exact ⟨rfl, rfl, rfl, rfl, rfl, rfl, fun g => Tab.get_fill _ g, fun c => Tab.get_fill _ _, rfl⟩

/-! ## Steps 1 and 2 (R3, R9) -/

/-- Step 2 moves the queue, the tallies, the streak, the last drive samples, UNDERRUNS and the generator alone. -/
theorem Group.obtain_frame (x : Group) : x.obtain.1 = { x with
    queue := x.obtain.1.queue, tallies := x.obtain.1.tallies, streak := x.obtain.1.streak,
    chans := x.obtain.1.chans, ctr := x.obtain.1.ctr, genRun := x.obtain.1.genRun } := by
  rcases x.obtain_cases with ⟨-, -, h⟩ | ⟨-, -, h⟩ | ⟨-, h⟩ | ⟨-, h⟩ <;> rw [h]
  · rcases hq : x.queue with _ | ⟨e, rest⟩
    · rw [Group.take_nil hq]
    · rw [Group.take_cons hq]
  · rfl
  · rcases hq : x.queue with _ | ⟨e, rest⟩
    · rw [Group.skip_nil hq]
    · rw [Group.skip_cons hq]

/-- Steps 1 and 2 together. -/
theorem Group.sourced_frame (x : Group) : x.sourced = { x with
    outSeq := x.outSeq + 1, queue := x.sourced.queue, tallies := x.sourced.tallies, streak := x.sourced.streak,
    chans := x.sourced.chans, ctr := x.sourced.ctr, genRun := x.sourced.genRun } := by
  rw [Group.sourced, Group.obtain_frame]
  rfl

@[simp] theorem Group.sourced_state (x : Group) : x.sourced.state = x.state := by rw [Group.sourced_frame]
@[simp] theorem Group.sourced_bound (x : Group) : x.sourced.bound = x.bound := by rw [Group.sourced_frame]
@[simp] theorem Group.sourced_source (x : Group) : x.sourced.source = x.source := by rw [Group.sourced_frame]
@[simp] theorem Group.sourced_expected (x : Group) : x.sourced.expected = x.expected := by rw [Group.sourced_frame]
@[simp] theorem Group.sourced_outSeq (x : Group) : x.sourced.outSeq = x.outSeq + 1 := by rw [Group.sourced_frame]
@[simp] theorem Group.sourced_env (x : Group) : x.sourced.env = x.env := by rw [Group.sourced_frame]
@[simp] theorem Group.sourced_level (x : Group) : x.sourced.level = x.level := by rw [Group.sourced_frame]
@[simp] theorem Group.sourced_att (x : Group) : x.sourced.att = x.att := by rw [Group.sourced_frame]
@[simp] theorem Group.sourced_retryCount (x : Group) : x.sourced.retryCount = x.retryCount := by
  rw [Group.sourced_frame]
@[simp] theorem Group.sourced_retryTimer (x : Group) : x.sourced.retryTimer = x.retryTimer := by
  rw [Group.sourced_frame]
@[simp] theorem Group.sourced_resume (x : Group) : x.sourced.resume = x.resume := by rw [Group.sourced_frame]
@[simp] theorem Group.sourced_sinceFb (x : Group) : x.sourced.sinceFb = x.sinceFb := by rw [Group.sourced_frame]
@[simp] theorem Group.sourced_genDone (x : Group) : x.sourced.genDone = x.genDone := by rw [Group.sourced_frame]
@[simp] theorem Group.sourced_latched (x : Group) : x.sourced.latched = x.latched := by rw [Group.sourced_frame]
@[simp] theorem Group.sourced_action (x : Group) : x.sourced.action = x.action := by rw [Group.sourced_frame]
@[simp] theorem Group.sourced_target (x : Group) : x.sourced.target = x.target := by rw [Group.sourced_frame]
@[simp] theorem Group.sourced_cfg (x : Group) : x.sourced.cfg = x.cfg := by rw [Group.sourced_frame]
@[simp] theorem Group.sourced_gen (x : Group) : x.sourced.gen = x.gen := by rw [Group.sourced_frame]
@[simp] theorem Group.sourced_lastEcho (x : Group) : x.sourced.lastEcho = x.lastEcho := by rw [Group.sourced_frame]

/-! ## Steps 3 and 4 (R10, R11) -/

theorem Group.stepped_env (x : Group) : x.stepped.env = x.nextEnv := by
  simp [Group.stepped, Group.stepEnv, Group.nextEnv]

@[simp] theorem Group.stepped_state (x : Group) : x.stepped.state = x.state := by simp [Group.stepped]
@[simp] theorem Group.stepped_att (x : Group) : x.stepped.att = x.att := by simp [Group.stepped]
@[simp] theorem Group.stepped_cfg (x : Group) : x.stepped.cfg = x.cfg := by simp [Group.stepped]
@[simp] theorem Group.stepped_chans (x : Group) : x.stepped.chans = x.sourced.chans := by simp [Group.stepped]

@[simp] theorem Group.formed_chans (x : Group) : x.formed.chans = x.stepped.outputs := rfl
@[simp] theorem Group.formed_env (x : Group) : x.formed.env = x.stepped.env := rfl

/-- The outputs of a live playout (R81). -/
theorem Group.outputs_live {x : Group} (h : x.state.live = true) :
    x.outputs = x.chans.map fun c => c.live (combinedFactor x.env x.att) := by
  rcases x.outputs_cases with ⟨-, ho⟩ | ⟨hs, -⟩ | ⟨hs, -⟩ | ⟨hs, -⟩
  · exact ho
  · simp [hs, GState.live] at h
  · simp [hs, GState.live] at h
  · revert h hs
    cases x.state <;> simp [GState.live]

/-- The outputs of a PARKING playout (R82). -/
theorem Group.outputs_parking {x : Group} (h : x.state = .parking) :
    x.outputs = x.chans.map fun c => c.parking x.env := by
  simp [Group.outputs, h]

theorem Group.formed_live {x : Group} (h : x.state.live = true) (l : LaneIx) :
    x.formed.chans.get l = (x.stepped.chans.get l).live (combinedFactor x.stepped.env x.att) := by
  rw [Group.formed_chans, Group.outputs_live (by simpa using h), Tab.get_map, Group.stepped_att]

theorem Group.formed_parking {x : Group} (h : x.state = .parking) (l : LaneIx) :
    x.formed.chans.get l = (x.stepped.chans.get l).parking x.stepped.env := by
  rw [Group.formed_chans, Group.outputs_parking (by simpa using h), Tab.get_map]

/-! ## The envelope (R10) and the combined factor (R77) -/

theorem Group.nextEnv_running {x : Group} (h : x.state = .fadeIn ∨ x.state = .run) : x.nextEnv =
    if x.env < x.level then min x.level (x.env + x.cfg.fadeStep) else max x.level (x.env - x.cfg.fadeStep) := by
  rcases h with h | h <;> simp [Group.nextEnv, h]

theorem combinedFactor_le {e a : Nat} (he : e ≤ 4096) (ha : a ≤ 4096) : combinedFactor e a ≤ 4096 := by
  have hm : e * a ≤ 4096 * 4096 := Nat.mul_le_mul he ha
  unfold combinedFactor
  omega

theorem combinedFactor_full_left (a : Nat) : combinedFactor 4096 a = a := by
  unfold combinedFactor
  omega

theorem combinedFactor_full_right (e : Nat) : combinedFactor e 4096 = e := by
  unfold combinedFactor
  omega

theorem combinedFactor_zero_left (a : Nat) : combinedFactor 0 a = 0 := by simp [combinedFactor]

theorem combinedFactor_zero_right (e : Nat) : combinedFactor e 0 = 0 := by simp [combinedFactor]

/-- Settles O46: step 3 by the state, and the factor's values by arithmetic. -/
theorem envelopeStepsAndFormsTheFactor : Obligations.EnvelopeStepsAndFormsTheFactor := by
  refine ⟨fun x => ?_, fun e a => ?_, by decide, by decide, by decide, by decide, by decide,
    fun x h l => Group.formed_live h l⟩
  · refine ⟨fun h => ?_, fun h => ?_, fun h => ?_, fun h => ?_, fun he hl => ?_, rfl, fun h l => ?_, fun h l => ?_⟩
    · rw [Group.stepped_env, Group.nextEnv_running h]
      exact ⟨fun hlt => by rw [if_pos hlt, Nat.min_comm],
        fun hgt => by rw [if_neg (Nat.lt_asymm hgt), Nat.max_comm], fun heq => by rw [if_neg (by omega)]; omega⟩
    · rw [Group.stepped_env]; simp [Group.nextEnv, h]
    · rw [Group.stepped_env]; simp [Group.nextEnv, h]
    · rw [Group.stepped_env]
      simp only [List.mem_cons, List.not_mem_nil, or_false] at h
      rcases h with h | h | h | h | h <;> simp [Group.nextEnv, h]
    · rw [Group.stepped_env]
      exact Group.nextEnv_le he hl
    · exact Group.formed_live h l
    · exact Group.formed_parking h l
  · exact ⟨rfl, combinedFactor_le, by decide, combinedFactor_zero_left a, combinedFactor_zero_right e,
      combinedFactor_full_left a, combinedFactor_full_right e⟩

end Sys2Proof.Machine
end

section
/-! A playout from its command frame on (R8, steps 5 to 7): the completions, the decimation and the trips leave the
outputs, the counters of steps 1 to 4 and every written record as step 4 left them. -/

namespace Sys2Proof.Machine

/-! ## What stays after step 4 -/

/-- What steps 5 to 7 leave of a channel. -/
abbrev Channel.SameOutput (c d : Channel) : Prop :=
  d.profile = c.profile ∧ d.yPrev = c.yPrev ∧ d.d = c.d ∧ d.slewFlag = c.slewFlag ∧ d.rangeFlag = c.rangeFlag
    ∧ d.slewClamps = c.slewClamps ∧ d.rangeClamps = c.rangeClamps

/-- What steps 5 to 7 leave of a group. -/
structure Group.SameOutputs (x t : Group) : Prop where
  outSeq : t.outSeq = x.outSeq
  level : t.level = x.level
  att : t.att = x.att
  cfg : t.cfg = x.cfg
  gen : t.gen = x.gen
  lastEcho : t.lastEcho = x.lastEcho
  enqueued : t.tallies.enqueued = x.tallies.enqueued
  played : t.tallies.played = x.tallies.played
  skipped : t.tallies.skipped = x.tallies.skipped
  playouts : t.ctr.playouts = x.ctr.playouts
  underruns : t.ctr.underruns = x.ctr.underruns
  chans : ∀ l : LaneIx, (x.chans.get l).SameOutput (t.chans.get l)

theorem Group.SameOutputs.trans {x y z : Group} (h : x.SameOutputs y) (k : y.SameOutputs z) : x.SameOutputs z where
  outSeq := k.outSeq.trans h.outSeq
  level := k.level.trans h.level
  att := k.att.trans h.att
  cfg := k.cfg.trans h.cfg
  gen := k.gen.trans h.gen
  lastEcho := k.lastEcho.trans h.lastEcho
  enqueued := k.enqueued.trans h.enqueued
  played := k.played.trans h.played
  skipped := k.skipped.trans h.skipped
  playouts := k.playouts.trans h.playouts
  underruns := k.underruns.trans h.underruns
  chans l := by
    obtain ⟨h1, h2, h3, h4, h5, h6, h7⟩ := h.chans l
    obtain ⟨k1, k2, k3, k4, k5, k6, k7⟩ := k.chans l
    exact ⟨k1.trans h1, k2.trans h2, k3.trans h3, k4.trans h4, k5.trans h5, k6.trans h6, k7.trans h7⟩

/-- The same run's values with the same two counters are the same outputs. -/
theorem Group.SameOutputs.of_sameRun {x t : Group} (h : x.SameRun t)
    (hc : t.ctr.playouts = x.ctr.playouts ∧ t.ctr.underruns = x.ctr.underruns) : x.SameOutputs t := by
  obtain ⟨-, -, -, ho, hl, ha, -, -, -, -, hcfg, hg, -, he, hq, hp, hs, hch⟩ := h
  refine ⟨ho, hl, ha, hcfg, hg, he, hq, hp, hs, hc.1, hc.2, fun l => ?_⟩
  obtain ⟨h1, h2, h3, -, h5, h6, -, h8, h9⟩ := hch l
  exact ⟨h1, h2, h3, h5, h6, h8, h9⟩

theorem Group.SameOutputs.refl (x : Group) : x.SameOutputs x := .of_sameRun (.refl x) ⟨rfl, rfl⟩

/-- No trip moves PLAYOUTS and UNDERRUNS. -/
theorem Group.tripAll_ctr (x : Group) (evs : List MonEvent) :
    (x.tripAll evs).ctr.playouts = x.ctr.playouts ∧ (x.tripAll evs).ctr.underruns = x.ctr.underruns :=
  Group.tripAll_keeps (law := fun t => t.ctr.playouts = x.ctr.playouts ∧ t.ctr.underruns = x.ctr.underruns)
    (fun _ ev h => Group.trip_keeps
      (law := fun t => t.ctr.playouts = x.ctr.playouts ∧ t.ctr.underruns = x.ctr.underruns)
      (fun _ _ _ h => h) (fun _ _ _ h => h) (fun _ _ _ _ h => h) (fun _ _ h => h) (fun _ _ h => h)
      (fun _ _ h => h) (fun _ _ h => h) ev h) evs ⟨rfl, rfl⟩

theorem Group.enterIdle_sameOutputs (x : Group) : x.SameOutputs x.enterIdle :=
  ⟨rfl, rfl, rfl, rfl, rfl, rfl, rfl, rfl, rfl, rfl, rfl, fun l => by simp [Channel.SameOutput]⟩

theorem Group.Completion.sameOutputs {x y : Group} {r : GenRun} {w i : Bool} (h : x.Completion r w i y) :
    x.SameOutputs y := by
  have same (z : Group) (hz : x.SameRun z) (hc : z.ctr = x.ctr) : x.SameOutputs z := .of_sameRun hz (by simp [hc])
  cases h with
  | parked h ha =>
    exact Group.enterTarget_keeps x.enterIdle_sameOutputs (same _ x.enterRetryWait_sameRun rfl)
      (same _ x.enterFaulted_sameRun rfl) (.refl x)
  | resumed h n hp =>
    exact Group.resumeRun_keeps
      ⟨rfl, rfl, rfl, rfl, rfl, rfl, rfl, rfl, rfl, rfl, rfl, fun l => by simp [Channel.SameOutput]⟩
      ⟨rfl, rfl, rfl, rfl, rfl, rfl, rfl, rfl, rfl, rfl, rfl, fun l => by simp [Channel.SameOutput]⟩
  | _ => exact ⟨rfl, rfl, rfl, rfl, rfl, rfl, rfl, rfl, rfl, rfl, rfl, fun l => by simp [Channel.SameOutput]⟩

theorem Group.countSince_sameOutputs (x : Group) : x.SameOutputs x.countSince := by
  rcases x.countSince_cases with ⟨h, -⟩ | ⟨h, -⟩ <;> rw [h]
  · exact ⟨rfl, rfl, rfl, rfl, rfl, rfl, rfl, rfl, rfl, rfl, rfl, (SameOutputs.refl x).chans⟩
  · exact .refl x

theorem Group.decimate_sameOutputs (x : Group) : x.SameOutputs x.decimate.1 := by
  have h (n : Nat) : x.SameOutputs { x with telemCount := n } :=
    ⟨rfl, rfl, rfl, rfl, rfl, rfl, rfl, rfl, rfl, rfl, rfl, (SameOutputs.refl x).chans⟩
  rcases x.decimate_cases with ⟨-, hd⟩ | ⟨-, -, hd⟩ | ⟨-, -, hd⟩ <;> rw [hd]
  · exact .refl x
  · exact h _
  · exact h _

/-- Steps 5 to 7 leave the outputs as step 4 formed them (R8). -/
theorem Group.played_sameOutputs (x : Group) (w i : Bool) : x.formed.SameOutputs (x.played w i) := by
  have hc := (x.formed.countSince.complete_completion x.genRun w i).sameOutputs
  have hs : x.formed.SameOutputs (x.settled w i) :=
    (x.formed.countSince_sameOutputs.trans hc).trans (Group.decimate_sameOutputs _)
  exact hs.trans (.of_sameRun (x.played_sameRun w i) (Group.tripAll_ctr _ _))

/-! ## Steps 1 to 4, what they leave of the group they find -/

/-- Step 2 takes the last drive samples alone from a channel. -/
theorem Group.sourced_chan (x : Group) (l : LaneIx) : x.sourced.chans.get l =
    { x.chans.get l with d := (x.sourced.chans.get l).d } := by
  have hx : x.advance.chans = x.chans := rfl
  rw [Group.sourced]
  rcases x.advance.obtain_cases with ⟨-, -, h⟩ | ⟨-, -, h⟩ | ⟨-, h⟩ | ⟨-, h⟩ <;> rw [h]
  · rcases hq : x.advance.queue with _ | ⟨e, rest⟩
    · rw [Group.take_nil hq]
      rfl
    · rw [Group.take_cons hq]
      simp only [Tab.get_mapIx, hx]
      cases e.slots.get l <;> rfl
  · simp [Group.generate]
  · rcases hq : x.advance.queue with _ | ⟨e, rest⟩
    · rw [Group.skip_nil hq]
      rfl
    · rw [Group.skip_cons hq]
      rfl
  · rfl

/-- Step 2 leaves PLAYOUTS, which step 1 has raised (R6). -/
theorem Group.sourced_playouts (x : Group) : x.sourced.ctr.playouts = satAdd x.ctr.playouts 1 := by
  rw [Group.sourced]
  refine Group.obtain_keeps (law := fun t => t.ctr.playouts = satAdd x.ctr.playouts 1) ?_ rfl ?_ rfl
  · rcases hq : x.advance.queue with _ | ⟨e, rest⟩
    · rw [Group.take_nil hq]; rfl
    · rw [Group.take_cons hq]; rfl
  · rcases hq : x.advance.queue with _ | ⟨e, rest⟩
    · rw [Group.skip_nil hq]; rfl
    · rw [Group.skip_cons hq]; rfl

theorem Group.formed_profile (x : Group) (l : LaneIx) :
    (x.formed.chans.get l).profile = (x.chans.get l).profile := by
  rw [Group.formed_chans, Group.outputs_profile, Group.stepped_chans, Group.sourced_chan]

/-! ## The command frame (R103, R187) -/

/-- The bytes of the command frame before its check code. -/
def Group.commandBody (x : Group) (ix : GroupIx) : List Byte :=
  out8 ix.val ++ outBool x.enable ++ outWord x.outSeq ++ x.outputBytes

theorem Group.commandFrame_eq (x : Group) (ix : GroupIx) :
    x.commandFrame ix = x.commandBody ix ++ outWord (crc (x.commandBody ix)) := rfl

theorem Group.commandBody_length (x : Group) (ix : GroupIx) : (x.commandBody ix).length = 16 := rfl

/-- The enable flag is clear in IDLE and while INTERLOCK is latched (R4). -/
theorem Group.outBool_enable (x : Group) : outBool x.enable =
    [if x.state = .idle ∨ x.classOf .interlock ≠ none then 0#8 else 1#8] := by
  unfold outBool Group.enable Group.holds
  by_cases hs : x.state = .idle
  · simp [hs]
  · rcases x.classOf .interlock with _ | c <;> simp [hs]

theorem exec_playout (s : State) (g : GroupIx) : exec (.playout g) s = .next (s.playout g) := rfl

/-- A playout's telemetry record moves the slots, the transmitter and TELEMETRY_REPLACED of a port alone (R180). -/
theorem State.playout_port_frame (s : State) (g : GroupIx) (p : Port) :
    (s.playout g).port p = { s.port p with
      slots := ((s.playout g).port p).slots, sending := ((s.playout g).port p).sending,
      nextGroup := ((s.playout g).port p).nextGroup,
      ctr := { (s.port p).ctr with telemetryReplaced := ((s.playout g).port p).ctr.telemetryReplaced } } := by
  by_cases h : (s.group g).telemetryDue s.wdExpired s.interlockOpen = false
      ∨ p ≠ (s.settledGroup g).cfg.telemPort
  · rw [State.playout_port_else s g p h]
  · simp only [not_or, Bool.not_eq_false, not_not] at h
    obtain ⟨hd, rfl⟩ := h
    rw [State.playout_port_due s g hd, PortState.placeRecord_frame]

/-- Settles O45: the frame is that of the group as step 4 formed it, and nothing after it moves what it carries. -/
theorem playoutEmitsOneCommandFrame : Obligations.PlayoutEmitsOneCommandFrame := by
  intro s g
  have ht : (s.playout g).group g = (s.group g).played s.wdExpired s.interlockOpen := State.playout_group s g
  have ho := (s.group g).played_sameOutputs s.wdExpired s.interlockOpen
  have hseq : (s.group g).formed.outSeq = (s.group g).outSeq + 1 := (s.group g).sourced_outSeq
  refine ⟨s.playout g, exec_playout s g, ?_, ?_, ?_, fun h hne => State.playout_group_ne s hne, ?_,
    State.playout_port_frame s g, ?_, ?_, ?_, ?_, fun l => ?_⟩
  · rw [ht, ho.outSeq, hseq]
  · rw [ht, ho.playouts]
    exact (s.group g).sourced_playouts
  · refine ⟨(s.group g).formed.commandBody g, State.playout_servoSent s g, Group.commandBody_length _ _, ?_⟩
    have hy : (s.group g).formed.outputBytes
        = lanes.flatMap fun l => outWord (((s.playout g).group g).chans.get l).yPrev := by
      rw [Group.outputBytes]
      congr 1
      funext l
      rw [ht, (ho.chans l).2.1]
    have hst : (s.group g).formed.state = (s.group g).state := (s.group g).sourced_state
    have hcl : (s.group g).formed.classOf .interlock = (s.group g).classOf .interlock :=
      congrArg (fun t => t.get Kind.interlock.ix) (s.group g).sourced_latched
    rw [Group.commandBody, hy, hseq, Group.outBool_enable, hst, hcl]
    rfl
  · have hf := State.playout_frame s g
    rwa [← State.playout_servoSent, ← State.playout_groups] at hf
  · rw [ht, ho.cfg]; exact (s.group g).sourced_cfg
  · rw [ht, ho.gen]; exact (s.group g).sourced_gen
  · rw [ht, ho.level]; exact (s.group g).sourced_level
  · rw [ht, ho.lastEcho]; exact (s.group g).sourced_lastEcho
  · rw [ht, (ho.chans l).1, Group.formed_profile]

end Sys2Proof.Machine
end

section
/-! Step 2 of a playout through to its end (R9, R62 to R65): what the completions and the trips leave of the queue and
of the underrun streak. -/

namespace Sys2Proof.Machine

/-! ## Steps 4 to 6 around the completions -/

/-- Step 6's count moves the count alone. -/
theorem Group.countSince_frame (x : Group) : x.countSince = { x with sinceFb := x.countSince.sinceFb } := by
  rcases x.countSince_cases with ⟨h, -⟩ | ⟨h, -⟩ <;> rw [h]

/-- The decimation moves its counter alone (R179). -/
theorem Group.decimate_frame (x : Group) : x.decimate.1 = { x with telemCount := x.decimate.1.telemCount } := by
  rcases x.decimate_cases with ⟨-, h⟩ | ⟨-, -, h⟩ | ⟨-, -, h⟩ <;> rw [h]

/-- The group that the completions of step 6 find. -/
abbrev Group.counted (x : Group) : Group := x.formed.countSince

@[simp] theorem Group.counted_state (x : Group) : x.counted.state = x.state := by
  rw [Group.counted, Group.countSince_frame]; exact x.sourced_state
@[simp] theorem Group.counted_queue (x : Group) : x.counted.queue = x.sourced.queue := by
  rw [Group.counted, Group.countSince_frame]; rfl
@[simp] theorem Group.counted_streak (x : Group) : x.counted.streak = x.sourced.streak := by
  rw [Group.counted, Group.countSince_frame]; rfl

theorem Group.completed_completion (x : Group) (w i : Bool) :
    x.counted.Completion x.genRun w i (x.completed w i) :=
  x.counted.complete_completion x.genRun w i

theorem Group.settled_frame (x : Group) (w i : Bool) :
    x.settled w i = { x.completed w i with telemCount := (x.settled w i).telemCount } :=
  Group.decimate_frame _

@[simp] theorem Group.settled_state (x : Group) (w i : Bool) : (x.settled w i).state = (x.completed w i).state := by
  rw [Group.settled_frame]
@[simp] theorem Group.settled_queue (x : Group) (w i : Bool) : (x.settled w i).queue = (x.completed w i).queue := by
  rw [Group.settled_frame]
@[simp] theorem Group.settled_streak (x : Group) (w i : Bool) :
    (x.settled w i).streak = (x.completed w i).streak := by
  rw [Group.settled_frame]

theorem Group.played_streak (x : Group) (w i : Bool) : (x.played w i).streak = (x.completed w i).streak := by
  obtain ⟨-, -, -, -, -, -, hs, -⟩ := x.played_sameRun w i
  rw [hs, Group.settled_streak]

/-! ## The completions of step 6 on the queue and the streak -/

/-- The completions of a live playout: but for the fade-out's, they leave the queue and the streak. -/
theorem Group.Completion.live {x y : Group} {r : GenRun} {w i : Bool} (h : x.Completion r w i y)
    (hx : x.state.live = true) :
    y.queue = x.queue ∧ y.streak = x.streak ∨ y.state = .armed ∧ y.streak = 0 := by
  cases h with
  | stay | burst | ended | risen => exact .inl ⟨rfl, rfl⟩
  | faded => exact .inr ⟨rfl, rfl⟩
  | parked hs | ticked hs | resumed hs => simp [hs, GState.live] at hx

/-- Outside the live states a completion flushes the queue on entering IDLE or FAULTED alone. -/
theorem Group.Completion.queue {x y : Group} {r : GenRun} {w i : Bool} (h : x.Completion r w i y)
    (hx : x.state.live = false) : y.queue = x.queue ∨ (y.state = .idle ∨ y.state = .faulted) ∧ y.queue = [] := by
  cases h with
  | stay => exact .inl rfl
  | parked => exact Group.enterTarget_keeps (law := fun t => t.queue = x.queue ∨ (t.state = .idle ∨ t.state = .faulted)
      ∧ t.queue = []) (.inr ⟨.inl rfl, rfl⟩) (.inl rfl) (.inr ⟨.inr rfl, rfl⟩) (.inl rfl)
  | ticked => exact .inl rfl
  | resumed => exact Group.resumeRun_keeps (law := fun t => t.queue = x.queue ∨ _) (.inl rfl) (.inl rfl)
  | burst hs | ended hs => revert hx hs; cases x.state <;> simp [GState.live, GState.running]
  | risen hs | faded hs => simp [hs, GState.live] at hx

/-- IDLE, ARMED, HELD and FAULTED have no completion. -/
theorem Group.Completion.still {x y : Group} {r : GenRun} {w i : Bool} (h : x.Completion r w i y)
    (hx : x.state ∈ [GState.idle, .armed, .held, .faulted]) : y = x := by
  cases h with
  | stay => rfl
  | burst hs | ended hs => revert hx hs; cases x.state <;> simp [GState.running]
  | risen hs | faded hs | parked hs | ticked hs | resumed hs => simp [hs] at hx

/-! ## The trips of step 7 on the queue and the state -/

/-- What trips leave of the queue: all of it, unless they enter FAULTED, where they then remain. -/
def Group.QueueLeft (x t : Group) : Prop :=
  t.queue = x.queue ∧ (x.state = .faulted → t.state = .faulted)
    ∨ (x.state ≠ .faulted ∧ t.state = .faulted) ∧ t.queue = []

theorem Group.QueueLeft.unmoved {x y z : Group} (h : x.QueueLeft y) (hy : y.state ≠ .faulted)
    (hq : z.queue = y.queue) : x.QueueLeft z := by
  rcases h with ⟨h, hf⟩ | ⟨⟨-, hf⟩, -⟩
  · exact .inl ⟨hq.trans h, fun hx => absurd (hf hx) hy⟩
  · exact absurd hf hy

theorem Group.QueueLeft.enterFaulted {x y : Group} (h : x.QueueLeft y) (hy : y.state ≠ .faulted) :
    x.QueueLeft y.enterFaulted := by
  refine .inr ⟨⟨fun hx => ?_, rfl⟩, rfl⟩
  rcases h with ⟨-, hf⟩ | ⟨⟨hn, -⟩, -⟩
  · exact hy (hf hx)
  · exact hn hx

theorem Group.tripAll_queue (x : Group) (evs : List MonEvent) : x.QueueLeft (x.tripAll evs) := by
  refine Group.tripAll_keeps (law := x.QueueLeft) (fun _ ev hy => ?_) evs (.inl ⟨rfl, id⟩)
  refine Group.trip_keeps (law := x.QueueLeft) (fun _ _ _ h => h) (fun _ _ _ h => h) (fun _ _ _ _ h => h)
    (fun y hs h => h.unmoved (fun hf => ?_) rfl) (fun _ hs h => h.enterFaulted hs)
    (fun y hs h => h.unmoved (fun hf => ?_) rfl) (fun y hs h => h.unmoved (fun hf => ?_) rfl) ev hy
  · simp [hf, GState.entersTarget] at hs
  · simp [hf, GState.live] at hs
  · simp [hf, GState.live] at hs

/-- From ARMED no trip enters a state with an output of its own (R144). -/
theorem Group.tripAll_armed {x : Group} (h : x.state = .armed) (evs : List MonEvent) :
    (x.tripAll evs).state ∈ [GState.armed, .retryWait, .faulted] := by
  refine Group.tripAll_keeps (law := fun t => t.state ∈ [GState.armed, .retryWait, .faulted])
    (fun y ev hy => ?_) evs (by simp [h])
  refine Group.trip_keeps (law := fun t => t.state ∈ [GState.armed, .retryWait, .faulted]) (fun _ _ _ h => h)
    (fun _ _ _ h => h) (fun _ _ _ _ h => h) (fun _ _ _ => by simp) (fun _ _ _ => by simp)
    (fun y hs h => ?_) (fun y hs h => ?_) ev hy
  · revert hs h; cases y.state <;> simp [GState.live]
  · revert hs h; cases y.state <;> simp [GState.live]

/-! ## The playout on the queue and the streak -/

/-- A live playout leaves the queue and the streak of step 2, unless it ends in ARMED, RETRY_WAIT or FAULTED. -/
theorem Group.played_live {x : Group} (w i : Bool) (h : x.state.live = true)
    (ht : (x.played w i).state ∈ [GState.fadeIn, .run, .fadeOut, .parking, .held]) :
    (x.played w i).queue = x.sourced.queue ∧ (x.played w i).streak = x.sourced.streak := by
  rcases (x.completed_completion w i).live (by simpa using h) with ⟨hq, hs⟩ | ⟨ha, -⟩
  · rcases (x.settled w i).tripAll_queue x.playoutEvents with ⟨ht', -⟩ | ⟨⟨-, hf⟩, -⟩
    · refine ⟨?_, by rw [Group.played_streak, hs, Group.counted_streak]⟩
      exact ht'.trans (by rw [Group.settled_queue, hq, Group.counted_queue])
    · rw [show (x.played w i).state = .faulted from hf] at ht
      simp at ht
  · have hend : (x.played w i).state ∈ [GState.armed, .retryWait, .faulted] :=
      Group.tripAll_armed (by rw [Group.settled_state, ha]) x.playoutEvents
    revert ht hend
    cases (x.played w i).state <;> simp

/-- A playout of another state leaves the queue of step 2, unless it ends in IDLE or FAULTED. -/
theorem Group.played_queue {x : Group} (w i : Bool) (h : x.state.live = false) :
    (x.played w i).queue = x.sourced.queue
      ∨ ((x.played w i).state = .idle ∨ (x.played w i).state = .faulted) ∧ (x.played w i).queue = [] := by
  rcases (x.settled w i).tripAll_queue x.playoutEvents with ⟨hq, hf⟩ | ⟨⟨-, hf⟩, hq⟩
  · rw [Group.settled_queue] at hq
    rw [Group.settled_state] at hf
    rcases (x.completed_completion w i).queue (by simpa using h) with hc | ⟨hc | hc, he⟩
    · exact .inl (hq.trans (hc.trans x.counted_queue))
    · refine .inr ⟨.inl ?_, hq.trans he⟩
      rw [Group.played, Group.tripAll_idle (by rw [Group.settled_state, hc]), Group.settled_state, hc]
    · exact .inr ⟨.inr (hf hc), hq.trans he⟩
  · exact .inr ⟨.inr hf, hq⟩

/-- IDLE, ARMED and FAULTED keep the queue for as long as they last. -/
theorem Group.played_still {x : Group} (w i : Bool) (h : x.state ∈ [GState.idle, .armed, .faulted]) :
    (x.played w i).streak = x.sourced.streak
      ∧ ((x.played w i).state = x.state → (x.played w i).queue = x.sourced.queue) := by
  have hc : x.completed w i = x.counted :=
    (x.completed_completion w i).still (by revert h; rw [x.counted_state]; cases x.state <;> simp)
  refine ⟨by rw [Group.played_streak, hc, Group.counted_streak], fun hs => ?_⟩
  rcases (x.settled w i).tripAll_queue x.playoutEvents with ⟨hq, -⟩ | ⟨⟨hn, hf⟩, -⟩
  · exact hq.trans (by rw [Group.settled_queue, hc, Group.counted_queue])
  · rw [Group.settled_state, hc, Group.counted_state] at hn
    exact absurd (hs.symm.trans hf) hn

/-! ## Step 2 by the state and the source (R9) -/

theorem Group.sourced_take {x : Group} (h : x.state.live = true) (hs : x.source = .stream) :
    x.sourced = x.advance.take.1 := by
  rw [Group.sourced]
  rcases x.advance.obtain_cases with ⟨-, -, ho⟩ | ⟨-, hg, -⟩ | ⟨hw, -⟩ | ⟨hw, -⟩
  · rw [ho]
  · cases hs.symm.trans hg
  · revert h; simp only [Group.advance] at hw; revert hw; cases x.state <;> simp [GState.live]
  · revert h; simp only [Group.advance] at hw; revert hw; cases x.state <;> simp [GState.live]

theorem Group.sourced_skip {x : Group} (h : x.state ∈ [GState.parking, .held, .retryWait]) :
    x.sourced = x.advance.skip := by
  have ha : x.advance.state = x.state := rfl
  rw [Group.sourced, Group.obtain, ha]
  revert h
  cases x.state <;> simp

theorem Group.sourced_still {x : Group} (h : x.state ∈ [GState.idle, .armed, .faulted]) :
    x.sourced = x.advance := by
  have ha : x.advance.state = x.state := rfl
  rw [Group.sourced, Group.obtain, ha]
  revert h
  cases x.state <;> simp

/-- Step 2 puts nothing in the queue. -/
theorem Group.sourced_enqueued (x : Group) : x.sourced.tallies.enqueued = x.tallies.enqueued := by
  rw [Group.sourced]
  refine Group.obtain_keeps (law := fun t => t.tallies.enqueued = x.tallies.enqueued) ?_ rfl ?_ rfl
  · rcases hq : x.advance.queue with _ | ⟨e, rest⟩
    · rw [Group.take_nil hq]; rfl
    · rw [Group.take_cons hq]; rfl
  · rcases hq : x.advance.queue with _ | ⟨e, rest⟩
    · rw [Group.skip_nil hq]; rfl
    · rw [Group.skip_cons hq]; rfl

/-- A skip takes no sample and counts no underrun (R65). -/
theorem Group.skip_leaves (x : Group) : x.skip.tallies.played = x.tallies.played
    ∧ x.skip.ctr.underruns = x.ctr.underruns ∧ x.skip.chans = x.chans := by
  rcases hq : x.queue with _ | ⟨e, rest⟩
  · rw [Group.skip_nil hq]; exact ⟨rfl, rfl, rfl⟩
  · rw [Group.skip_cons hq]; exact ⟨rfl, rfl, rfl⟩

/-- What steps 4 to 7 leave of step 2: the tallies, UNDERRUNS and the last drive samples. -/
theorem Group.played_obtained (x : Group) (w i : Bool) :
    (x.played w i).tallies.enqueued = x.sourced.tallies.enqueued
      ∧ (x.played w i).tallies.played = x.sourced.tallies.played
      ∧ (x.played w i).tallies.skipped = x.sourced.tallies.skipped
      ∧ (x.played w i).ctr.underruns = x.sourced.ctr.underruns
      ∧ ∀ l : LaneIx, ((x.played w i).chans.get l).d = (x.sourced.chans.get l).d := by
  have ho := x.played_sameOutputs w i
  refine ⟨ho.enqueued, ho.played, ho.skipped, ho.underruns, fun l => ?_⟩
  rw [(ho.chans l).2.2.1, Group.formed_chans, ← Group.stepped_chans]
  exact Group.outputs_keeps (law := fun c => c.d = (x.stepped.chans.get l).d) (fun _ => rfl) (fun _ => rfl) rfl rfl

/-- Settles O49: step 2 by the state and the source, and what the later steps leave of it. -/
theorem playoutsTakeSkipOrUnderrun : Obligations.PlayoutsTakeSkipOrUnderrun := by
  rintro s g x rfl
  have ht : (s.playout g).group g = (s.group g).played s.wdExpired s.interlockOpen := State.playout_group s g
  refine ⟨s.playout g, exec_playout s g, ?_⟩
  rw [ht]
  generalize s.group g = x
  generalize s.wdExpired = w
  generalize s.interlockOpen = i
  obtain ⟨he, hp, hk, hu, hd⟩ := x.played_obtained w i
  rw [he, hp, hk, hu]
  simp only [hd]
  have hq : x.advance.queue = x.queue := rfl
  refine ⟨fun hl hs => ?_, fun hs => ?_, fun hs => ?_, ?_⟩
  · have hsrc := x.sourced_take hl hs
    refine ⟨fun e rest h => ?_, fun h => ?_⟩
    · rw [Group.take_cons (hq.trans h)] at hsrc
      refine ⟨by rw [hsrc]; rfl, ?_, by rw [hsrc]; rfl, by rw [hsrc]; rfl, fun ht => ?_, fun l => ?_⟩
      · rw [Group.played_streak]
        rcases (x.completed_completion w i).live (by simpa using hl) with ⟨-, h⟩ | ⟨-, h⟩
        · rw [h, Group.counted_streak, hsrc]
        · exact h
      · rw [(x.played_live w i hl ht).1, hsrc]
      · simp [hsrc, Group.advance]
    · rw [Group.take_nil (hq.trans h)] at hsrc
      refine ⟨by rw [hsrc]; rfl, by rw [hsrc]; rfl, by rw [hsrc]; rfl, fun ht => ?_, fun l => by rw [hsrc]; rfl⟩
      rw [(x.played_live w i hl ht).2, hsrc]
      rfl
  · have hsrc := x.sourced_skip hs
    have hl : x.state.live = false := by revert hs; cases x.state <;> simp [GState.live]
    obtain ⟨kp, ku, kc⟩ := x.advance.skip_leaves
    refine ⟨fun e rest h => ?_, fun h => ?_, by rw [hsrc, kp]; rfl, by rw [hsrc, ku]; rfl,
      fun l => by rw [hsrc, kc]; rfl⟩
    · rw [Group.skip_cons (hq.trans h)] at hsrc
      refine ⟨by rw [hsrc]; rfl, fun ht => ?_⟩
      rcases x.played_queue w i hl with h | ⟨h | h, -⟩
      · rw [h, hsrc]
      · simp [h] at ht
      · simp [h] at ht
    · rw [Group.skip_nil (hq.trans h)] at hsrc
      refine ⟨by rw [hsrc]; rfl, ?_⟩
      rcases x.played_queue w i hl with h' | ⟨-, h'⟩
      · rw [h', hsrc, hq, h]
      · exact h'
  · have hsrc := x.sourced_still hs
    obtain ⟨hk, hq'⟩ := x.played_still w i hs
    rw [hsrc] at hk hq' ⊢
    exact ⟨rfl, rfl, rfl, hk, hq', fun l => rfl⟩
  · exact x.sourced_enqueued

end Sys2Proof.Machine
end

section
/-! The completions of step 6 (R12 to R14, R97, R98, R149, R150), each state's said by an equation on the group that the
step finds. -/

namespace Sys2Proof.Machine

/-! ## The group that the completions find -/

/-- Steps 1 to 5 with the feedback count: what they move of the group. -/
theorem Group.counted_frame (x : Group) : x.counted = { x with
    outSeq := x.outSeq + 1, queue := x.sourced.queue, tallies := x.sourced.tallies, streak := x.sourced.streak,
    chans := x.stepped.outputs, ctr := x.sourced.ctr, genRun := x.sourced.genRun, env := x.stepped.env,
    att := x.formed.att, sinceFb := x.counted.sinceFb } :=
  calc x.counted = { x.formed with sinceFb := x.counted.sinceFb } := Group.countSince_frame _
    _ = { x.sourced with env := x.stepped.env, chans := x.stepped.outputs, att := x.formed.att,
                         sinceFb := x.counted.sinceFb } := rfl
    _ = _ := congrArg (fun t : Group => { t with
        env := x.stepped.env, chans := x.stepped.outputs, att := x.formed.att, sinceFb := x.counted.sinceFb })
      x.sourced_frame

@[simp] theorem Group.counted_source (x : Group) : x.counted.source = x.source := by rw [Group.counted_frame]
@[simp] theorem Group.counted_bound (x : Group) : x.counted.bound = x.bound := by rw [Group.counted_frame]
@[simp] theorem Group.counted_env (x : Group) : x.counted.env = x.stepped.env := by rw [Group.counted_frame]
@[simp] theorem Group.counted_level (x : Group) : x.counted.level = x.level := by rw [Group.counted_frame]
@[simp] theorem Group.counted_cfg (x : Group) : x.counted.cfg = x.cfg := by rw [Group.counted_frame]
@[simp] theorem Group.counted_gen (x : Group) : x.counted.gen = x.gen := by rw [Group.counted_frame]
@[simp] theorem Group.counted_genRun (x : Group) : x.counted.genRun = x.sourced.genRun := by rw [Group.counted_frame]
@[simp] theorem Group.counted_genDone (x : Group) : x.counted.genDone = x.genDone := by rw [Group.counted_frame]
@[simp] theorem Group.counted_latched (x : Group) : x.counted.latched = x.latched := by rw [Group.counted_frame]
@[simp] theorem Group.counted_target (x : Group) : x.counted.target = x.target := by rw [Group.counted_frame]
@[simp] theorem Group.counted_resume (x : Group) : x.counted.resume = x.resume := by rw [Group.counted_frame]
@[simp] theorem Group.counted_retryCount (x : Group) : x.counted.retryCount = x.retryCount := by
  rw [Group.counted_frame]
@[simp] theorem Group.counted_retryTimer (x : Group) : x.counted.retryTimer = x.retryTimer := by
  rw [Group.counted_frame]
@[simp] theorem Group.counted_chans (x : Group) : x.counted.chans = x.stepped.outputs := by rw [Group.counted_frame]

/-- The playouts since feedback count in every state but IDLE and FAULTED (R111). -/
theorem Group.counted_sinceFb (x : Group) : x.counted.sinceFb =
    if x.state = .idle ∨ x.state = .faulted then x.sinceFb else min (x.sinceFb + 1) 65535 := by
  have hst : x.formed.state = x.state := x.sourced_state
  have hfb : x.formed.sinceFb = x.sinceFb := x.sourced_sinceFb
  rcases x.formed.countSince_cases with ⟨h, hw⟩ | ⟨h, hw⟩ <;> rw [Group.counted, h] <;> rw [hst] at hw
  · rw [if_neg]
    · exact congrArg countUp hfb
    · rintro (hs | hs) <;> simp [hs, GState.watched] at hw
  · rw [if_pos, hfb]
    revert hw
    cases x.state <;> simp [GState.watched]

/-! ## The completions, state by state -/

/-- FADE_IN and RUN (R12, R97, R98). -/
theorem Group.complete_running {x : Group} (before : GenRun) (w i : Bool) (h : x.state = .fadeIn ∨ x.state = .run) :
    x.complete before w i =
      if x.source = .generator ∧ burstDone x.gen before x.genRun then x.completeBurst
      else if x.source = .generator ∧ x.genRun.ended = true then { x with state := .fadeOut }
      else if x.state = .fadeIn ∧ x.env = x.level then { x with state := .run }
      else x := by
  rcases h with h | h <;> simp only [Group.complete, h]

theorem Group.complete_fadeOut {x : Group} (before : GenRun) (w i : Bool) (h : x.state = .fadeOut) :
    x.complete before w i = if x.arrived then x.completeFadeOut else x := by simp only [Group.complete, h]

theorem Group.complete_parking {x : Group} (before : GenRun) (w i : Bool) (h : x.state = .parking) :
    x.complete before w i = if x.arrived then x.enterTarget else x := by simp only [Group.complete, h]

theorem Group.complete_retryWait {x : Group} (before : GenRun) (w i : Bool) (h : x.state = .retryWait) :
    x.complete before w i = x.tickRetry w i := by simp only [Group.complete, h]

/-- No completion moves the playouts since feedback. -/
theorem Group.Completion.sinceFb {x y : Group} {r : GenRun} {w i : Bool} (h : x.Completion r w i y) :
    y.sinceFb = x.sinceFb := by
  cases h with
  | parked => exact Group.enterTarget_keeps (law := fun t => t.sinceFb = x.sinceFb) rfl rfl rfl rfl
  | resumed => exact Group.resumeRun_keeps (law := fun t => t.sinceFb = x.sinceFb) rfl rfl
  | _ => rfl

/-- The completions of FADE_IN and RUN leave the envelope. -/
theorem Group.Completion.running_env {x y : Group} {r : GenRun} {w i : Bool} (h : x.Completion r w i y)
    (hx : x.state = .fadeIn ∨ x.state = .run) : y.env = x.env := by
  cases h with
  | stay | burst | ended | risen => rfl
  | faded hs | parked hs | ticked hs | resumed hs => simp [hs] at hx

/-! ## The generator's burst (R97) -/

theorem Group.sourced_generate {x : Group} (h : x.state.live = true) (hs : x.source = .generator) :
    x.sourced = x.advance.generate := by
  have ha : x.advance.state = x.state := rfl
  have hb : x.advance.source = x.source := rfl
  rw [Group.sourced, Group.obtain, ha, hb, hs]
  revert h
  cases x.state <;> simp [GState.live]

/-- A counting playout ends the burst just where the count it reaches is the configured one (R97). -/
theorem burstDone_genAdvance (c : GenConfig) (r : GenRun) : burstDone c r (genAdvance c true r) = true ↔
    r.ended = false ∧ r.count < 16777215 ∧ c.count = some (r.count + 1) := by
  rcases he : r.ended with _ | _
  · have hc : (genAdvance c true r).count = min (r.count + 1) 16777215 := by
      simp [genAdvance, he, Config.genCountMax]
    simp only [burstDone, he, hc, Bool.not_false, Bool.true_and, Bool.and_eq_true, decide_eq_true_eq, true_and]
    constructor
    · rintro ⟨hlt, h⟩
      rw [show min (r.count + 1) 16777215 = r.count + 1 by omega] at h
      exact ⟨by omega, h⟩
    · rintro ⟨hlt, h⟩
      rw [show min (r.count + 1) 16777215 = r.count + 1 by omega]
      exact ⟨by omega, h⟩
  · simp [burstDone, he]

/-- The completion of a running playout with no generator at its end. -/
theorem Group.completed_run {x : Group} (w i : Bool) (h : x.state = .fadeIn ∨ x.state = .run)
    (hg : x.source = .stream ∨ x.genRun.ended = false ∧ x.gen.count ≠ some (x.genRun.count + 1)) :
    (x.completed w i).state = (if x.stepped.env = x.level then .run else x.state)
      ∧ (x.completed w i).genDone = x.genDone := by
  have hrun : x.state.running = true := by rcases h with h | h <;> rw [h] <;> rfl
  have hlive : x.state.live = true := by rcases h with h | h <;> rw [h] <;> rfl
  have hnone : ¬ (x.source = .generator ∧ burstDone x.gen x.genRun x.sourced.genRun = true)
      ∧ ¬ (x.source = .generator ∧ x.sourced.genRun.ended = true) := by
    rcases hg with hg | ⟨he, hc⟩
    · simp [hg]
    · constructor
      · rintro ⟨hs, hb⟩
        have hr : x.sourced.genRun = genAdvance x.gen x.state.running x.genRun := by
          rw [x.sourced_generate hlive hs]; rfl
        rw [hr, hrun, burstDone_genAdvance] at hb
        exact hc hb.2.2
      · rintro ⟨hs, hend⟩
        rw [x.sourced_generate hlive hs] at hend
        exact absurd (he.symm.trans hend) (by decide)
  have heq : x.completed w i = if x.state = .fadeIn ∧ x.stepped.env = x.level then { x.counted with state := .run }
      else x.counted := by
    rw [Group.completed, Group.complete_running _ _ _ (by simpa using h)]
    simp only [Group.counted_source, Group.counted_gen, Group.counted_genRun, Group.counted_state,
      Group.counted_env, Group.counted_level, hnone.1, hnone.2, if_false]
  rw [heq]
  rcases h with h | h <;> by_cases hE : x.stepped.env = x.level <;> simp [h, hE]

/-- The completion of a running playout whose pattern has ended before it (R98). -/
theorem Group.completed_ended {x : Group} (w i : Bool) (h : x.state = .fadeIn ∨ x.state = .run)
    (hs : x.source = .generator) (he : x.genRun.ended = true) :
    x.completed w i = { x.counted with state := .fadeOut } := by
  have hlive : x.state.live = true := by rcases h with h | h <;> rw [h] <;> rfl
  have hb : burstDone x.gen x.genRun x.sourced.genRun = false := by simp [burstDone, he]
  have hend : x.sourced.genRun.ended = true := by rw [x.sourced_generate hlive hs]; exact he
  rw [Group.completed, Group.complete_running _ _ _ (by simpa using h)]
  simp [hs, hb, hend]

/-- The completion of a burst (R97). -/
theorem Group.completed_burst {x : Group} (w i : Bool) (h : x.state = .fadeIn ∨ x.state = .run)
    (hs : x.source = .generator) (he : x.genRun.ended = false) (hlt : x.genRun.count < 16777215)
    (hc : x.gen.count = some (x.genRun.count + 1)) : x.completed w i = x.counted.completeBurst := by
  have hrun : x.state.running = true := by rcases h with h | h <;> rw [h] <;> rfl
  have hlive : x.state.live = true := by rcases h with h | h <;> rw [h] <;> rfl
  have hr : x.sourced.genRun = genAdvance x.gen x.state.running x.genRun := by
    rw [x.sourced_generate hlive hs]; rfl
  have hb : burstDone x.gen x.genRun x.sourced.genRun = true := by
    rw [hr, hrun, burstDone_genAdvance]
    exact ⟨he, hlt, hc⟩
  rw [Group.completed, Group.complete_running _ _ _ (by simpa using h)]
  simp [hs, hb]

/-! ## The arrival at the park values (R13, R14) -/

theorem Group.arrived_iff (x : Group) : x.arrived = true ↔
    x.env = 0 ∧ ∀ l : LaneIx, (x.chans.get l).yPrev = (x.chans.get l).profile.park := by
  have hl (l : LaneIx) : l ∈ lanes := List.mem_finRange l
  simp [Group.arrived, Group.atPark, hl]

/-- The arrival read off the playout's own result. -/
theorem Group.counted_arrived_iff (x : Group) (w i : Bool) : x.counted.arrived = true ↔ x.stepped.env = 0
    ∧ ∀ l : LaneIx, ((x.played w i).chans.get l).yPrev = (x.chans.get l).profile.park := by
  have hy (l : LaneIx) : ((x.played w i).chans.get l).yPrev = (x.counted.chans.get l).yPrev := by
    rw [((x.played_sameOutputs w i).chans l).2.1, Group.formed_chans, Group.counted_chans]
  have hp (l : LaneIx) : (x.counted.chans.get l).profile = (x.chans.get l).profile := by
    rw [Group.counted_chans, ← Group.formed_chans, Group.formed_profile]
  simp only [Group.arrived_iff, Group.counted_env, hy, hp]

/-! ## The retry timer (R149, R150) -/

theorem mem_kindList (k : Kind) : k ∈ kindList := by cases k <;> decide

theorem Group.actionPresent_iff (x : Group) (w i : Bool) : x.actionPresent w i = true ↔
    ∃ k : Kind, x.classOf k = some .action ∧ x.present w i k = true := by
  simp [Group.actionPresent, mem_kindList]

/-- What a condition's presence reads of a group (R130). -/
theorem Group.present_congr {x y : Group} (hm : ∀ l k, (y.chans.get l).mon k = (x.chans.get l).mon k)
    (hc : y.cfg = x.cfg) (hs : y.sinceFb = x.sinceFb) (ha : y.att = x.att) (w i : Bool) (k : Kind) :
    y.present w i k = x.present w i k := by
  cases k <;> simp [Group.present, Group.anyCond, hm, hc, hs, ha]

/-- At a RETRY_WAIT playout every condition stands as the group's own monitors and its raised count say. -/
theorem Group.counted_present {x : Group} (h : x.state = .retryWait) (w i : Bool) (n : Nat) (k : Kind) :
    ({ x.counted with retryTimer := n } : Group).present w i k
      = ({ x with sinceFb := min (x.sinceFb + 1) 65535 } : Group).present w i k := by
  refine Group.present_congr (x := { x with sinceFb := min (x.sinceFb + 1) 65535 })
    (y := { x.counted with retryTimer := n }) (fun l k => ?_) x.counted_cfg ?_ ?_ w i k
  · have hr : x.stepped.outputs = x.stepped.chans.map Channel.rest := by simp [Group.outputs, h]
    dsimp only
    rw [Group.counted_chans, hr, Tab.get_map, Group.stepped_chans, Group.sourced_chan]
    cases k <;> rfl
  · exact x.counted_sinceFb.trans (by simp [h])
  · have hn : x.stepped.nextAtt = x.att := by simp [Group.nextAtt, h, GState.live]
    rw [Group.counted_frame]
    exact hn

/-- The timer runs on (R149). -/
theorem Group.completed_ticked {x : Group} (w i : Bool) (h : x.state = .retryWait) (ht : 2 ≤ x.retryTimer) :
    x.completed w i = { x.counted with retryTimer := x.retryTimer - 1 } := by
  have hn : ¬ x.retryTimer - 1 = 0 := by omega
  rw [Group.completed, Group.complete_retryWait _ _ _ (by simpa using h)]
  simp [Group.tickRetry, hn]

/-- The timer's expiry is judged by the conditions of the ACTION members (R149, R150). -/
theorem Group.completed_expired {x : Group} (w i : Bool) (h : x.state = .retryWait) (ht : x.retryTimer = 1) :
    x.completed w i = ({ x.counted with retryTimer := 0 } : Group).judgeExpiry w i := by
  rw [Group.completed, Group.complete_retryWait _ _ _ (by simpa using h)]
  simp [Group.tickRetry, ht]

/-- The expiry finds an ACTION condition present just where the group's own values say so. -/
theorem Group.counted_actionPresent {x : Group} (h : x.state = .retryWait) (w i : Bool) :
    ({ x.counted with retryTimer := 0 } : Group).actionPresent w i = true ↔ ∃ k : Kind,
      x.classOf k = some .action
        ∧ ({ x with sinceFb := min (x.sinceFb + 1) 65535 } : Group).present w i k = true := by
  have hc (k : Kind) : ({ x.counted with retryTimer := 0 } : Group).classOf k = x.classOf k :=
    congrArg (fun t => t.get k.ix) x.counted_latched
  simp only [Group.actionPresent_iff, hc, Group.counted_present h]

/-- The classes after a demotion (R150). -/
theorem Group.classOf_demote (x : Group) (k : Kind) :
    x.demote.classOf k = if x.classOf k = some .action then some .report else x.classOf k := by
  simp only [Group.classOf, Group.demote, Tab.get_map]
  split <;> simp_all

/-- What a retry resume leaves (R150, R19). -/
theorem Group.resumeRun_leaves (x : Group) :
    x.resumeRun.state = (match x.resume with | .armed => .armed | .fadeIn => .fadeIn)
      ∧ x.resumeRun.env = x.env ∧ x.resumeRun.streak = 0 ∧ x.resumeRun.action = none ∧ x.resumeRun.target = none
      ∧ x.resumeRun.retryCount = x.retryCount
      ∧ (x.resume = .fadeIn → ∀ l : LaneIx, (x.resumeRun.chans.get l).persist = 0)
      ∧ ∀ k : Kind, x.resumeRun.classOf k =
          if x.classOf k = some .action then some .report else x.classOf k := by
  cases hr : x.resume with
  | fadeIn =>
    have h : x.resumeRun = ({ x.demote with action := none, target := none } : Group).enterFadeIn := by
      simp only [Group.resumeRun, hr]
    rw [h]
    exact ⟨rfl, rfl, rfl, rfl, rfl, rfl, fun _ l => by simp [Group.enterFadeIn], x.classOf_demote⟩
  | armed =>
    have h : x.resumeRun = { x.demote with action := none, target := none, state := .armed, streak := 0 } := by
      simp only [Group.resumeRun, hr]
    rw [h]
    exact ⟨rfl, rfl, rfl, rfl, rfl, rfl, fun h => Resume.noConfusion h, x.classOf_demote⟩

/-- An expiry that finds every ACTION condition absent is a retry resume (R150). -/
theorem Group.completed_resumed (x : Group) (w i : Bool) (h : x.state = .retryWait) (ht : x.retryTimer = 1)
    (hp : ∀ k : Kind, x.classOf k = some .action →
      ({ x with sinceFb := min (x.sinceFb + 1) 65535 } : Group).present w i k = false) :
    (x.completed w i).state = (match x.resume with | .armed => .armed | .fadeIn => .fadeIn)
      ∧ (x.completed w i).env = x.env ∧ (x.completed w i).streak = 0 ∧ (x.completed w i).action = none
      ∧ (x.completed w i).target = none ∧ (x.completed w i).retryCount = x.retryCount
      ∧ (x.resume = .fadeIn → ∀ l : LaneIx, ((x.completed w i).chans.get l).persist = 0)
      ∧ ∀ k : Kind, (x.completed w i).classOf k =
          if x.classOf k = some .action then some .report else x.classOf k := by
  have hno : ¬ ({ x.counted with retryTimer := 0 } : Group).actionPresent w i = true := by
    rw [Group.counted_actionPresent h w i]
    rintro ⟨k, hk, hpk⟩
    rw [hp k hk] at hpk
    cases hpk
  have he : x.stepped.env = x.env := by simp [Group.stepped_env, Group.nextEnv, h]
  have hx : ({ x.counted with retryTimer := 0 } : Group).resume = x.resume
      ∧ ({ x.counted with retryTimer := 0 } : Group).env = x.env
      ∧ ({ x.counted with retryTimer := 0 } : Group).retryCount = x.retryCount
      ∧ ∀ k, ({ x.counted with retryTimer := 0 } : Group).classOf k = x.classOf k :=
    ⟨x.counted_resume, x.counted_env.trans he, x.counted_retryCount,
      fun k => congrArg (fun t => t.get k.ix) x.counted_latched⟩
  rw [x.completed_expired w i h ht, Group.judgeExpiry, if_neg hno]
  generalize ({ x.counted with retryTimer := 0 } : Group) = y at hx ⊢
  obtain ⟨hr, hE, hn, hcl⟩ := hx
  have hy := y.resumeRun_leaves
  simp only [hr, hE, hn, hcl] at hy
  exact hy

/-- Settles O51: with no monitor event a playout ends as the completions and the decimation leave it. -/
theorem playoutsCompleteTimedOperations : Obligations.PlayoutsCompleteTimedOperations := by
  rintro s g x e rfl rfl hev
  have ht : (s.playout g).group g = (s.group g).played s.wdExpired s.interlockOpen := State.playout_group s g
  refine ⟨s.playout g, exec_playout s g, ?_⟩
  rw [ht]
  revert hev
  generalize s.group g = x
  generalize s.wdExpired = w
  generalize s.interlockOpen = i
  intro hev
  have harr := x.counted_arrived_iff w i
  have hz : x.played w i = { x.completed w i with telemCount := (x.settled w i).telemCount } :=
    (Group.played_quiet w i hev).trans (x.settled_frame w i)
  rw [hz] at harr ⊢
  have away (h : x.stepped.env ≠ 0 ∨ ∃ l : LaneIx,
      ((x.completed w i).chans.get l).yPrev ≠ (x.chans.get l).profile.park) : x.counted.arrived = false := by
    rw [← Bool.not_eq_true, harr]
    rintro ⟨he, hp⟩
    rcases h with h | ⟨l, h⟩
    · exact h he
    · exact h (hp l)
  refine ⟨fun h => ?_, fun h => ⟨?_, fun hg => ?_, fun hs he => ?_, fun hs he hlt hc => ?_⟩,
    fun h => ⟨fun ha => ?_, fun ha => ?_⟩, fun h => ⟨fun ha => ?_, fun ha => ?_⟩,
    fun h => ⟨fun h2 => ?_, fun h1 since hsince => ⟨fun hp => ?_, fun hp => ?_⟩⟩, ?_⟩
  · have hc : x.completed w i = x.counted := (x.completed_completion w i).still (by simpa using h)
    simp only [hc, Group.counted_state, Group.counted_env, Group.stepped_env, true_and]
    revert h
    cases hs : x.state <;> simp [Group.nextEnv, hs]
  · refine Eq.trans ?_ x.counted_env
    exact (x.completed_completion w i).running_env (by simpa using h)
  · exact x.completed_run w i h hg
  · simp [x.completed_ended w i h hs he]
  · simp [x.completed_burst w i h hs he hlt hc]
  · have hc : x.completed w i = x.counted.completeFadeOut := by
      rw [Group.completed, Group.complete_fadeOut _ _ _ (by simpa using h), harr.mpr ha, if_pos rfl]
    simp [hc, ha.1]
  · have hc : x.completed w i = x.counted := by
      rw [Group.completed, Group.complete_fadeOut _ _ _ (by simpa using h), away ha]
      rfl
    simp [hc, h]
  · have hc : x.completed w i = x.counted.enterTarget := by
      rw [Group.completed, Group.complete_parking _ _ _ (by simpa using h), harr.mpr ha, if_pos rfl]
    have he := ha.1
    clear ha away harr
    simp only [hc, Group.enterTarget, Group.counted_target]
    rcases x.target with _ | _ | _ | _ <;> simp [he]
  · have hc : x.completed w i = x.counted := by
      rw [Group.completed, Group.complete_parking _ _ _ (by simpa using h), away ha]
      rfl
    simp [hc, h]
  · simp [x.completed_ticked w i h h2, h]
  · subst hsince
    have hc : x.completed w i = { x.counted with retryTimer := x.cfg.retryTime } := by
      rw [x.completed_expired w i h h1, Group.judgeExpiry, if_pos ((Group.counted_actionPresent h w i).mpr hp)]
      simp
    simp [hc, h]
  · subst hsince
    exact x.completed_resumed w i h h1 hp
  · exact (x.completed_completion w i).sinceFb.trans x.counted_sinceFb

end Sys2Proof.Machine
end

section
/-! Step 4 of a playout through to its end (R11, R73 to R88): what each channel's two clamps leave, and the flow
monitor with its event. -/

namespace Sys2Proof.Machine

/-! ## Rounding (R74) and the pipeline's first stages (R75, R76) -/

theorem rha_neg (n : Int) (m : Nat) : rha (-n) m = -rha n m := by simp [rha]

/-- Stage 3 is an inversion or nothing (R76). -/
theorem conditioned_eq (p : Profile) (d t : Du) : conditioned p d t =
    (if p.polarity = .normal then rha ((d.toInt + t.toInt) * p.gain) 16384
      else -rha ((d.toInt + t.toInt) * p.gain) 16384) + p.offset.toInt := by
  cases hp : p.polarity <;> simp [conditioned, hp]

/-! ## Stages 6 to 8 on a channel (R79, R80, R85, R86) -/

/-- What stages 6 to 8 leave of a channel that enters them with `s5`. -/
structure Channel.Clamped (c d : Channel) (s5 s6 y : Int) : Prop where
  yPrev : d.yPrev.toInt = y
  slewFlag : d.slewFlag = true ↔ s6 ≠ s5
  rangeFlag : d.rangeFlag = true ↔ y ≠ s6
  slewClamps : d.slewClamps = if s6 = s5 then c.slewClamps else min (c.slewClamps + 1) 4294967295
  rangeClamps : d.rangeClamps = if y = s6 then c.rangeClamps else min (c.rangeClamps + 1) 4294967295

theorem Channel.output_clamped (c : Channel) (s5 : Int) :
    c.Clamped (c.output s5) s5 (slewed c.profile c.yPrev s5) (ranged c.profile (slewed c.profile c.yPrev s5)) where
  yPrev := toInt_ofInt_clampInt _ _ _
  slewFlag := by simp [Channel.output]
  rangeFlag := by simp [Channel.output]
  slewClamps := by simp only [Channel.output, decide_eq_true_eq, ite_not]; rfl
  rangeClamps := by simp only [Channel.output, decide_eq_true_eq, ite_not]; rfl

theorem Channel.live_clamped (c : Channel) (f : Nat) {s5 : Int}
    (h : s5 = blend c.profile (conditioned c.profile c.d c.trim) f) :
    c.Clamped (c.live f) s5 (slewed c.profile c.yPrev s5) (ranged c.profile (slewed c.profile c.yPrev s5)) := by
  subst h
  obtain ⟨h1, h2, h3, h4, h5⟩ := c.output_clamped (blend c.profile (conditioned c.profile c.d c.trim) f)
  exact ⟨h1, h2, h3, h4, h5⟩

/-- The persistence counter restarts at a live playout that neither clamp moved (R85). -/
theorem Channel.live_persist (c : Channel) (f : Nat) {s5 s6 y : Int} (h : c.Clamped (c.live f) s5 s6 y) :
    (c.live f).persist = if s6 = s5 ∧ y = s6 then 0 else min (c.persist + 1) 65535 := by
  have hp : (c.live f).persist = if (c.live f).clamped then countUp c.persist else 0 := rfl
  rw [hp, ← ite_not]
  refine if_congr ?_ rfl rfl
  rw [Channel.clamped, Bool.or_eq_true, h.slewFlag, h.rangeFlag]
  tauto

/-! ## The channels after the playout -/

/-- Steps 5 to 7 leave the clamps' part of a channel. -/
theorem Channel.Clamped.of_sameOutput {c d e : Channel} {s5 s6 y : Int} (h : c.Clamped d s5 s6 y)
    (hs : d.SameOutput e) : c.Clamped e s5 s6 y := by
  obtain ⟨-, hy, -, hf, hr, hsc, hrc⟩ := hs
  exact ⟨hy ▸ h.yPrev, hf ▸ h.slewFlag, hr ▸ h.rangeFlag, hsc ▸ h.slewClamps, hrc ▸ h.rangeClamps⟩

/-- Only a retry resume moves the persistence counters after step 4 (R85). -/
theorem Group.Completion.persist {x y : Group} {r : GenRun} {w i : Bool} (h : x.Completion r w i y)
    (hx : x.state ≠ .retryWait) (l : LaneIx) : (y.chans.get l).persist = (x.chans.get l).persist := by
  cases h with
  | parked =>
    exact Group.enterTarget_keeps (law := fun t => (t.chans.get l).persist = (x.chans.get l).persist)
      (by simp) rfl (by simp) rfl
  | resumed hs | ticked hs => exact absurd hs hx
  | stay | burst | ended | risen | faded => rfl

theorem Group.played_persist {x : Group} (w i : Bool) (h : x.state ≠ .retryWait) (l : LaneIx) :
    ((x.played w i).chans.get l).persist = (x.formed.chans.get l).persist := by
  obtain ⟨-, -, -, -, -, -, -, -, -, -, -, -, -, -, -, -, -, hch⟩ := x.played_sameRun w i
  obtain ⟨-, -, -, -, -, -, hp, -⟩ := hch l
  rw [hp, Group.settled_frame]
  dsimp only
  rw [(x.completed_completion w i).persist (by simpa using h), Group.counted_chans, Group.formed_chans]

theorem Group.formed_held {x : Group} (h : x.state = .held) (l : LaneIx) :
    x.formed.chans.get l = (x.sourced.chans.get l).hold := by
  have ho : x.stepped.outputs = x.stepped.chans.map Channel.hold := by simp [Group.outputs, h]
  rw [Group.formed_chans, ho, Tab.get_map, Group.stepped_chans]

theorem Group.formed_rest {x : Group} (h : x.state ∈ [GState.idle, .armed, .retryWait, .faulted]) (l : LaneIx) :
    x.formed.chans.get l = (x.sourced.chans.get l).rest := by
  have ho : x.stepped.outputs = x.stepped.chans.map Channel.rest := by
    simp only [Group.outputs, Group.stepped_state]
    revert h
    cases x.state <;> simp
  rw [Group.formed_chans, ho, Tab.get_map, Group.stepped_chans]

/-- The states without a pipeline clear both flags and leave the clamp counters (R73, R83). -/
theorem Group.formed_unclamped {x : Group} (h : x.state ∈ [GState.idle, .armed, .held, .retryWait, .faulted])
    (l : LaneIx) : (x.formed.chans.get l).slewFlag = false ∧ (x.formed.chans.get l).rangeFlag = false
      ∧ (x.formed.chans.get l).slewClamps = (x.sourced.chans.get l).slewClamps
      ∧ (x.formed.chans.get l).rangeClamps = (x.sourced.chans.get l).rangeClamps := by
  by_cases hh : x.state = .held
  · rw [Group.formed_held hh]
    exact ⟨rfl, rfl, rfl, rfl⟩
  · rw [Group.formed_rest (by simpa [hh] using h)]
    exact ⟨rfl, rfl, rfl, rfl⟩

/-- Step 4 counts persistence at live playouts alone (R85). -/
theorem Group.formed_persist {x : Group} (h : x.state.live = false) (l : LaneIx) :
    (x.formed.chans.get l).persist = (x.sourced.chans.get l).persist := by
  rw [Group.formed_chans, ← Group.stepped_chans]
  rcases x.stepped.outputs_cases with ⟨hl, -⟩ | ⟨-, ho⟩ | ⟨-, ho⟩ | ⟨-, ho⟩
  · rw [Group.stepped_state, h] at hl
    cases hl
  · rw [ho, Tab.get_map]
    rfl
  · rw [ho, Tab.get_map]
    rfl
  · rw [ho, Tab.get_map]
    rfl

/-! ## The flow monitor (R87, R88) -/

/-- The demand, read off the playout's own result. -/
theorem Group.flowDemand_played (x : Group) (w i : Bool) : flowDemand x.stepped.chans x.stepped.outputs =
    (lanes.map fun l => (x.chans.get l).profile.weight
      * (((x.played w i).chans.get l).yPrev.toInt - (x.chans.get l).yPrev.toInt).natAbs).sum := by
  refine congrArg List.sum (List.map_congr_left fun l _ => ?_)
  rw [flowTerm, ((x.played_sameOutputs w i).chans l).2.1, ← Group.formed_chans, Group.formed_profile,
    Group.stepped_chans, Group.sourced_chan]

theorem Group.played_att (x : Group) (w i : Bool) : (x.played w i).att =
    if x.state.live then flowAdjust x.cfg (flowDemand x.stepped.chans x.stepped.outputs) x.att else x.att := by
  have h : x.formed.att = x.stepped.nextAtt := rfl
  rw [(x.played_sameOutputs w i).att, h, Group.nextAtt]
  simp

/-- No completion of a live playout leads to IDLE. -/
theorem Group.Completion.ne_idle {x y : Group} {r : GenRun} {w i : Bool} (h : x.Completion r w i y)
    (hx : x.state.live = true) : y.state ≠ .idle := by
  cases h with
  | stay => exact fun hs => by simp [hs, GState.live] at hx
  | burst | ended | risen | faded => exact fun hs => by cases hs
  | parked hs | ticked hs | resumed hs => simp [hs, GState.live] at hx

/-! ## What trips latch (R139, R140) -/

theorem joinClass_ne_none (old : Option FaultClass) (c : FaultClass) : joinClass old c ≠ none := by
  cases old with
  | none => exact Option.some_ne_none c
  | some d => cases d <;> cases c <;> exact Option.some_ne_none _

theorem Group.classOf_latch_ne_none {x : Group} {j : Kind} (k : Kind) (c : FaultClass) (h : x.classOf j ≠ none) :
    (x.latch k c).classOf j ≠ none := by
  rw [Group.classOf_latch]
  split
  · exact joinClass_ne_none _ _
  · exact h

/-- A trip unlatches nothing. -/
theorem Group.trip_holds {x : Group} {j : Kind} (ev : MonEvent) (h : x.classOf j ≠ none) :
    (x.trip ev).classOf j ≠ none :=
  Group.trip_keeps (law := fun t => t.classOf j ≠ none) (fun _ k c h => Group.classOf_latch_ne_none k c h)
    (fun _ ev _ h => Group.classOf_latch_ne_none ev.kind .action h) (fun _ _ _ _ h => h) (fun _ _ h => h)
    (fun _ _ h => h) (fun _ _ h => h) (fun _ _ h => h) ev h

/-- No trip leads to IDLE (R144). -/
theorem Group.trip_ne_idle {x : Group} (ev : MonEvent) (h : x.state ≠ .idle) : (x.trip ev).state ≠ .idle :=
  Group.trip_keeps (law := fun t => t.state ≠ .idle) (fun _ _ _ h => h) (fun _ _ _ h => h) (fun _ _ _ _ h => h)
    (fun _ _ _ => by simp) (fun _ _ _ => by simp) (fun _ _ _ => by simp) (fun _ _ _ => by simp) ev h

/-- A REPORT event among several of a group outside IDLE leaves its kind latched (R142). -/
theorem Group.tripAll_report {x : Group} {evs : List MonEvent} {ev : MonEvent} (h : x.state ≠ .idle)
    (hm : ev ∈ evs) (hr : ev.mode = .report) : (x.tripAll evs).classOf ev.kind ≠ none := by
  obtain ⟨before, after, rfl⟩ := List.append_of_mem hm
  have hb : (x.tripAll before).state ≠ .idle :=
    Group.tripAll_keeps (law := fun t => t.state ≠ .idle) (fun _ ev h => Group.trip_ne_idle ev h) before h
  have ht : ((x.tripAll before).trip ev).classOf ev.kind ≠ none := by
    rw [(Group.trip_active hb).1 hr, Group.classOf_latch, if_pos rfl]
    exact joinClass_ne_none _ _
  have happ : x.tripAll (before ++ ev :: after) = ((x.tripAll before).trip ev).tripAll after := by
    rw [Group.tripAll, List.foldl_append]
    rfl
  rw [happ]
  exact Group.tripAll_keeps (law := fun t => t.classOf ev.kind ≠ none) (fun _ e h => Group.trip_holds e h) after ht

/-- A live playout whose demand exceeds the limit leaves FLOW latched (R88, R142). -/
theorem Group.played_flow {x : Group} (w i : Bool) (h : x.state.live = true) (h0 : x.cfg.flowLimit ≠ 0)
    (hd : x.cfg.flowLimit < flowDemand x.stepped.chans x.stepped.outputs) :
    (x.played w i).classOf .flow ≠ none := by
  rw [Group.stepped_chans] at hd
  have hraised : x.stepped.flowRaised = true := by simp [Group.flowRaised, flowExceeded, h, h0, hd]
  have hmem : flowEvent ∈ x.playoutEvents := by simp [Group.playoutEvents, hraised]
  have hne : (x.settled w i).state ≠ .idle := by
    rw [Group.settled_state]
    exact (x.completed_completion w i).ne_idle (by simpa using h)
  exact Group.tripAll_report hne hmem rfl

/-- Settles O47: each channel by the state, stage by stage, then the attenuation by the demand. -/
theorem outputsFollowTheState : Obligations.OutputsFollowTheState := by
  refine ⟨fun n m _ _ => ⟨rfl, rha_neg n m⟩, by decide, by decide, by decide, by decide, by decide, by decide, ?_⟩
  rintro s g x rfl
  have ht : (s.playout g).group g = (s.group g).played s.wdExpired s.interlockOpen := State.playout_group s g
  refine ⟨s.playout g, exec_playout s g, ?_⟩
  rw [ht]
  generalize s.group g = x
  generalize s.wdExpired = w
  generalize s.interlockOpen = i
  refine ⟨?_, fun h => by rw [Group.played_att, h]; rfl, ?_⟩
  · intro l c c' pk s1 s2 s3 s4 s5 s6 y hc hc' hpk h1 h2 h3 h4 h5l h5p h6 hy
    subst hc hc' hpk h1 h2 h3 h4 h6 hy
    have hout := (x.played_sameOutputs w i).chans l
    have hlive (h : x.state.live = true) : s5 = blend (x.sourced.chans.get l).profile
        (conditioned (x.sourced.chans.get l).profile (x.sourced.chans.get l).d (x.sourced.chans.get l).trim)
        (combinedFactor x.stepped.env x.att) := by
      rw [h5l h, conditioned_eq]
      rfl
    have hfl (h : x.state.live = true) : x.formed.chans.get l
        = (x.sourced.chans.get l).live (combinedFactor x.stepped.env x.att) := by
      rw [Group.formed_live h, Group.stepped_chans]
    have hcl (h : x.state.live = true) := (x.sourced.chans.get l).live_clamped _ (hlive h)
    refine ⟨fun h => ?_, fun h => ?_, fun h => ?_, fun h => ?_, fun h => ?_, fun h => ?_⟩
    · have hc : (x.sourced.chans.get l).Clamped (x.formed.chans.get l) s5
          (slewed (x.sourced.chans.get l).profile (x.sourced.chans.get l).yPrev s5)
          (ranged (x.sourced.chans.get l).profile
            (slewed (x.sourced.chans.get l).profile (x.sourced.chans.get l).yPrev s5)) := by
        rcases h with h | h
        · rw [hfl h]
          exact hcl h
        · rw [Group.formed_parking h, Group.stepped_chans, h5p h]
          exact Channel.output_clamped _ _
      obtain ⟨hy, hsf, hrf, hsc, hrc⟩ := hc.of_sameOutput hout
      exact ⟨hy, hsf, hrf, hsc, hrc⟩
    · rw [Group.played_persist w i (fun hr => by simp [hr, GState.live] at h), hfl h]
      exact Channel.live_persist _ _ (hcl h)
    · rw [hout.2.1, Group.formed_held h]
      rfl
    · rw [hout.2.1, Group.formed_rest h]
      rfl
    · obtain ⟨-, -, -, hsf, hrf, hsc, hrc⟩ := hout
      rw [hsf, hrf, hsc, hrc]
      exact Group.formed_unclamped h l
    · rw [Group.played_persist w i (fun hr => by simp [hr] at h)]
      exact Group.formed_persist (by revert h; cases x.state <;> simp [GState.live]) l
  · intro h demand hdem
    rw [← x.flowDemand_played w i] at hdem
    subst hdem
    rw [Group.played_att, h, if_pos rfl]
    generalize hD : flowDemand x.stepped.chans x.stepped.outputs = D
    refine ⟨fun h0 => ?_, fun h0 hd => ⟨?_, ?_⟩, fun h0 hd => ?_, fun hlo hhi => ?_⟩
    · rw [flowAdjust, if_pos h0]
    · rw [flowAdjust, if_neg h0, if_pos hd]
    · exact x.played_flow w i h h0 (hD ▸ hd)
    · rw [flowAdjust, if_neg h0, if_neg (by omega), if_pos hd]
      rfl
    · rw [flowAdjust, if_neg (by omega), if_neg (by omega), if_neg (by omega)]

end Sys2Proof.Machine
end

section
/-! The stream map (R37, R40): what an event can do to it, with what each write makes sure of; the law of the map
follows. WRITE_MAP_ENTRY and CLEAR_MAP_ENTRY by the order of their checks (R40, R41). -/

namespace Sys2Proof.Machine

/-! ## The operands of WRITE_MAP_ENTRY -/

theorem laneMaskOk_iff (m : BitVec 8) : laneMaskOk m = true ↔ m.toNat < 64 := by
  revert m
  decide

theorem portMaskOk_iff (m : BitVec 8) : portMaskOk m = true ↔ m.toNat < 4 := by
  revert m
  decide

/-- An entry's port mask shares a port with an operand byte exactly when it does with the byte's two port bits. -/
theorem zeroExtend_and_eq_zero (x : BitVec 2) (m : BitVec 8) : x.zeroExtend 8 &&& m = 0 ↔ x &&& m.truncate 2 = 0 := by
  constructor
  · intro h
    ext i hi
    have hb := congrArg (fun v => v.getLsbD i) h
    simpa [hi, show i < 8 by omega] using hb
  · intro h
    ext i hi
    have hb := congrArg (fun v => v.getLsbD i) h
    by_cases h2 : i < 2
    · simpa [hi, h2] using hb
    · simp [BitVec.getLsbD_of_ge x i (by omega)]

/-- What WRITE_MAP_ENTRY asks of the tag and the two masks (R40, step 4). -/
abbrev MapValuesOk (tag : Nat) (lm pm : BitVec 8) : Prop :=
  (1 ≤ tag ∧ tag ≤ 0xFEF) ∧ lm ≠ 0 ∧ lm.toNat < 64 ∧ pm ≠ 0 ∧ pm.toNat < 4

/-- The entry that a taken WRITE_MAP_ENTRY stores (R40). -/
abbrev writtenEntry (g : GroupIx) (tag : Nat) (r : Role) (lm pm : BitVec 8) : MapEntry :=
  { valid := true, tag := BitVec.ofNat 12 tag, role := r, group := g, laneMask := lm.truncate 6,
    portMask := pm.truncate 2, lastTrim := none }

theorem mapEntryOf_badRole {role : Nat} (h : roleOf role = none) (g : GroupIx) (tag : Nat) (lm pm : BitVec 8) :
    mapEntryOf g tag role lm pm = none := by
  rw [mapEntryOf, h]

theorem mapEntryOf_role {role : Nat} {r : Role} (h : roleOf role = some r) (g : GroupIx) (tag : Nat)
    (lm pm : BitVec 8) :
    mapEntryOf g tag role lm pm = if MapValuesOk tag lm pm then some (writtenEntry g tag r lm pm) else none := by
  have hok : (streamTagOk tag && laneMaskOk lm && decide (lm ≠ 0) && portMaskOk pm && decide (pm ≠ 0)) = true
      ↔ MapValuesOk tag lm pm := by
    simp only [streamTagOk, Bool.and_eq_true, laneMaskOk_iff, portMaskOk_iff, decide_eq_true_eq]
    tauto
  rw [mapEntryOf, h]
  exact if_congr hok rfl rfl

theorem roleOf_none {n : Nat} (h : 2 ≤ n) : roleOf n = none := by
  match n, h with
  | _ + 2, _ => rfl

/-- A role code past the last, or another value out of place, stores nothing (R40, step 4). -/
theorem mapEntryOf_refused {g : GroupIx} {tag role : Nat} {lm pm : BitVec 8}
    (h : 2 ≤ role ∨ ¬ MapValuesOk tag lm pm) : mapEntryOf g tag role lm pm = none := by
  rcases hr : roleOf role with _ | r
  · exact mapEntryOf_badRole hr g tag lm pm
  · rw [mapEntryOf_role hr, if_neg]
    rcases h with h | h
    · exact nomatch (roleOf_none h).symm.trans hr
    · exact h

theorem mapEntryOf_some {g : GroupIx} {tag role : Nat} {lm pm : BitVec 8} {e : MapEntry}
    (h : mapEntryOf g tag role lm pm = some e) : MapValuesOk tag lm pm ∧ ∃ r, e = writtenEntry g tag r lm pm := by
  rcases hr : roleOf role with _ | r
  · rw [mapEntryOf_badRole hr] at h
    cases h
  · rw [mapEntryOf_role hr] at h
    split at h
    · next hok =>
      cases h
      exact ⟨hok, r, rfl⟩
    · cases h

theorem writtenEntry_tag {g : GroupIx} {tag : Nat} {r : Role} {lm pm : BitVec 8} (h : MapValuesOk tag lm pm) :
    (writtenEntry g tag r lm pm).tag.toNat = tag := by
  have hlt : tag < 2 ^ 12 := by omega
  exact (BitVec.toNat_ofNat tag 12).trans (Nat.mod_eq_of_lt hlt)

theorem truncate_ne_zero {w v : Nat} {m : BitVec w} (h : m ≠ 0) (hlt : m.toNat < 2 ^ v) : m.truncate v ≠ 0 := by
  intro hz
  have hn := congrArg BitVec.toNat hz
  rw [BitVec.toNat_setWidth, Nat.mod_eq_of_lt hlt] at hn
  exact h (BitVec.eq_of_toNat_eq (by simpa using hn))

theorem writtenEntry_law {g : GroupIx} {tag : Nat} {r : Role} {lm pm : BitVec 8} (h : MapValuesOk tag lm pm) :
    (writtenEntry g tag r lm pm).Law := by
  refine ⟨fun hv => (nomatch hv), fun _ => ?_⟩
  rw [writtenEntry_tag h]
  obtain ⟨htag, hl, hlt, hp, hpt⟩ := h
  exact ⟨htag, truncate_ne_zero hl hlt, truncate_ne_zero hp hpt⟩

theorem State.mapConflict_iff (s : State) (i : MapIx) (tag : Nat) (pm : BitVec 8) :
    s.mapConflict i tag pm = true ↔ ∃ j : MapIx, j ≠ i ∧ (s.map.get j).valid = true
      ∧ (s.map.get j).tag.toNat = tag ∧ (s.map.get j).portMask.zeroExtend 8 &&& pm ≠ 0 := by
  simp [State.mapConflict, mapIndices, and_assoc]

/-! ## The law of the map -/

/-- The law of the stream map, as a law of the table (R37, R40). -/
abbrev MapTableLaw (m : Tab 32 MapEntry) : Prop :=
  (∀ i : MapIx, (m.get i).Law)
    ∧ ∀ i j : MapIx, (m.get i).valid = true → (m.get j).valid = true →
        (m.get i).tag = (m.get j).tag → (m.get i).portMask &&& (m.get j).portMask ≠ 0 → i = j

theorem State.mapLaw_iff (s : State) : s.MapLaw ↔ MapTableLaw s.map := Iff.rfl

/-- No other valid entry has the tag of an entry and shares a port with it. -/
abbrev MapEntry.Apart (e : MapEntry) (m : Tab 32 MapEntry) (i : MapIx) : Prop :=
  ∀ j : MapIx, j ≠ i → (m.get j).valid = true → (m.get j).tag = e.tag → (m.get j).portMask &&& e.portMask = 0

/-- A well-formed entry that is invalid or apart from the others keeps the law wherever it is put. -/
theorem MapTableLaw.set {m : Tab 32 MapEntry} (hm : MapTableLaw m) {i : MapIx} {e : MapEntry} (he : e.Law)
    (ha : e.valid = true → e.Apart m i) : MapTableLaw (m.set i e) := by
  obtain ⟨hlaw, huniq⟩ := hm
  refine ⟨fun j => ?_, fun j k hj hk ht hp => ?_⟩
  · by_cases hji : i = j
    · subst hji; rwa [Tab.get_set_self]
    · rw [Tab.get_set_ne _ _ hji]; exact hlaw j
  · by_cases hji : i = j <;> by_cases hki : i = k
    · exact hji.symm.trans hki
    · subst hji
      rw [Tab.get_set_self] at hj ht hp
      rw [Tab.get_set_ne _ _ hki] at hk ht hp
      exact absurd (BitVec.and_comm _ _ ▸ ha hj k (Ne.symm hki) hk ht.symm) hp
    · subst hki
      rw [Tab.get_set_self] at hk ht hp
      rw [Tab.get_set_ne _ _ hji] at hj ht hp
      exact absurd (ha hk j (Ne.symm hji) hj ht) hp
    · rw [Tab.get_set_ne _ _ hji] at hj ht hp
      rw [Tab.get_set_ne _ _ hki] at hk ht hp
      exact huniq j k hj hk ht hp

theorem clearedEntry_law : clearedEntry.Law := ⟨fun _ => rfl, fun h => nomatch h⟩

/-- An entry of the map of power-on is cleared or that of a corner (R38). -/
theorem defaultMap_cases (b : Bool) (i : MapIx) :
    (defaultMap b).get i = clearedEntry ∨ ∃ g : GroupIx, i.val = g.val ∧ (defaultMap b).get i = cornerEntry g := by
  by_cases h : b = true ∧ i.val < 4
  · exact .inr ⟨⟨i.val, h.2⟩, rfl, by simp [defaultMap, h]⟩
  · refine .inl (defaultMap_cleared ?_)
    rw [not_and_or, Bool.not_eq_true, Nat.not_lt] at h
    exact h

theorem cornerEntry_law : ∀ g : GroupIx, (cornerEntry g).Law := by decide

theorem cornerEntry_tag_inj : ∀ g h : GroupIx, (cornerEntry g).tag = (cornerEntry h).tag → g = h := by decide

/-- The four corners of power-on have four tags (R38). -/
theorem defaultMap_law (b : Bool) : MapTableLaw (defaultMap b) := by
  refine ⟨fun i => ?_, fun i j hi hj ht _ => ?_⟩
  · rcases defaultMap_cases b i with h | ⟨g, -, h⟩
    · rw [h]; exact clearedEntry_law
    · rw [h]; exact cornerEntry_law g
  · rcases defaultMap_cases b i with h | ⟨g, hg, h⟩
    · rw [h] at hi; cases hi
    · rcases defaultMap_cases b j with k | ⟨g', hg', k⟩
      · rw [k] at hj; cases hj
      · rw [h, k] at ht
        rw [cornerEntry_tag_inj g g' ht] at hg
        exact Fin.ext (hg.trans hg'.symm)

/-! ## What an event can do to the map -/

/-- What an event can make of the stream map, with what it makes sure of. -/
inductive MapChange (m : Tab 32 MapEntry) : Tab 32 MapEntry → Prop
  | same : MapChange m m
  | written (i : MapIx) (e : MapEntry) (he : e.Law) (ha : e.Apart m i) : MapChange m (m.set i e)
  | cleared (i : MapIx) : MapChange m (m.set i clearedEntry)
  | trimmed (i : MapIx) (seq : Seq) (hv : (m.get i).valid = true) :
      MapChange m (m.set i { m.get i with lastTrim := some seq })
  | fresh (b : Bool) : MapChange m (defaultMap b)

theorem MapChange.of_eq {m m' : Tab 32 MapEntry} (h : m' = m) : MapChange m m' := h ▸ .same

theorem MapChange.keeps_law {m m' : Tab 32 MapEntry} (h : MapChange m m') (hm : MapTableLaw m) :
    MapTableLaw m' := by
  cases h with
  | same => exact hm
  | written i e he ha => exact hm.set he fun _ => ha
  | cleared i => exact hm.set clearedEntry_law fun h => nomatch h
  | trimmed i seq hv =>
    refine hm.set ⟨fun h => ?_, (hm.1 i).2⟩ fun _ j hji hj ht => ?_
    · exact nomatch hv.symm.trans h
    · by_contra hp
      exact hji (hm.2 j i hj hv ht hp)
  | fresh b => exact defaultMap_law b

theorem State.FrameFate.mapChange {s t : State} {p : Port} (h : s.FrameFate p t) : MapChange s.map t.map := by
  cases h with
  | trimmed i bs seq slots hr hv => exact .trimmed i seq hv
  | queued i bs seq slots h =>
    refine .of_eq ?_
    unfold State.driveArrival
    dsimp only
    split <;> simp [State.deliver]
  | counted f hf => exact .of_eq (by simp)
  | dispatched bs => exact .of_eq (by simp)
  | _ => exact .same

/-- A write without conflict puts an entry apart from the others (R40). -/
theorem State.apart_of_noConflict {s : State} {i : MapIx} {g : GroupIx} {tag : Nat} {r : Role} {lm pm : BitVec 8}
    (hok : MapValuesOk tag lm pm) (hc : s.mapConflict i tag pm = false) :
    (writtenEntry g tag r lm pm).Apart s.map i := by
  intro j hji hv ht
  by_contra hp
  have hshared : s.mapConflict i tag pm = true := by
    refine (s.mapConflict_iff i tag pm).mpr ⟨j, hji, hv, ?_, fun h => hp ((zeroExtend_and_eq_zero _ _).mp h)⟩
    rw [ht, writtenEntry_tag hok]
  exact nomatch hc.symm.trans hshared

theorem State.Effect.mapChange {s t : State} {p : Port} (h : s.Effect p t) : MapChange s.map t.map := by
  cases h with
  | mapWrite i g tag role lm pm e hb hc he =>
    obtain ⟨hok, r, rfl⟩ := mapEntryOf_some he
    exact .written i _ (writtenEntry_law hok) (State.apart_of_noConflict hok hc)
  | mapClear i hb => exact .cleared i
  | policy p a tag h => exact .of_eq (by simp)
  | actions p c n a hl ha => exact .of_eq (by simp)
  | portCounters p => exact .of_eq (by simp)
  | _ => exact .same

theorem State.Event.mapChange {s t : State} (h : s.Event t) : MapChange s.map t.map := by
  cases h with
  | powerOn pins => exact .fresh _
  | frame p bs hr => simpa using (State.ingress_fate (s.modPort p PortState.countReceived) p bs).mapChange
  | refused p q st hn => exact .of_eq (by simp)
  | taken k p q a pl u hn hk hv => simpa using (judge_effect k hv).mapChange
  | playout g => exact .of_eq (by simp)
  | feedback bs => rw [State.feedback_frame]; exact .same
  | tick u => rw [State.tick_frame]; exact .same
  | sendComplete p levels =>
    rcases s.sendComplete_cases p levels with h | ⟨u, k, h⟩
    · rw [h]; exact .same
    · rw [h]; exact .fresh _
  | _ => exact .same

/-- Settles O14: every change of the map keeps its law. -/
theorem streamMapLawIsKept : Obligations.StreamMapLawIsKept :=
  keptByEveryStep_of_event (fun _ _ h => h) fun s t he hs =>
    t.mapLaw_iff.mpr (he.mapChange.keeps_law (s.mapLaw_iff.mp hs))

/-! ## WRITE_MAP_ENTRY and CLEAR_MAP_ENTRY -/

theorem State.boundGroup_isSome_iff (s : State) (i : MapIx) :
    (s.boundGroup i).isSome = true ↔ ∃ g : GroupIx, (s.group g).bound = some i := by
  simp only [State.boundGroup, List.find?_isSome, decide_eq_true_eq]
  exact ⟨fun ⟨g, _, h⟩ => ⟨g, h⟩, fun ⟨g, h⟩ => ⟨g, by fin_cases g <;> simp [groupList], h⟩⟩

@[simp] theorem roleOf_code (r : Role) : roleOf r.code = some r := by cases r <;> rfl

section Asked

variable {s : State} {p : Port} {q : Request} {i : MapIx}

theorem State.Asks.operand_map {c : ReqClass} {n : Nat} {ops : List Byte}
    (h : s.Asks p q c n (BitVec.ofNat 8 i.val :: ops)) : indexOf 32 (natAt8 q.operands 0) = some i := by
  rw [h.2.2.2]
  exact indexOf_ofNat i (by decide)

@[simp] theorem State.boundGroup_dequeue : (s.dequeue p).boundGroup i = s.boundGroup i := by
  simp [State.boundGroup]

@[simp] theorem State.mapConflict_dequeue (tag : Nat) (pm : BitVec 8) :
    (s.dequeue p).mapConflict i tag pm = s.mapConflict i tag pm := by
  simp [State.mapConflict]

theorem writeMapEntry_asks {g : GroupIx} {th tl r lm pm : Byte}
    (h : s.Asks p q .map 1 [BitVec.ofNat 8 i.val, th, tl, r, BitVec.ofNat 8 g.val, lm, pm]) :
    exec .writeMapEntry s = .next (s.carryOut p q (
      if (s.boundGroup i).isSome then .refuse .inUse
      else if s.mapConflict i (th ++ tl).toNat pm then .refuse .conflict
      else (mapEntryOf g (th ++ tl).toNat r.toNat lm pm).elim (.refuse .badValue) fun e =>
        .take false [] { s.dequeue p with map := s.map.set i e })) := by
  have hx : exec .writeMapEntry s = .next (s.carryOut p q (judgeWriteMapEntry p q (s.dequeue p))) :=
    exec_asks .writeMapEntry h rfl rfl
  have hg : indexOf 4 (natAt8 q.operands 4) = some g := by
    rw [h.2.2.2]
    exact indexOf_ofNat g (by decide)
  have htag : natAt16 q.operands 1 = (th ++ tl).toNat := by rw [h.2.2.2]; rfl
  have hrole : natAt8 q.operands 3 = r.toNat := by rw [h.2.2.2]; rfl
  have hlanes : byteAt q.operands 5 = lm := by rw [h.2.2.2]; rfl
  have hports : byteAt q.operands 6 = pm := by rw [h.2.2.2]; rfl
  rw [hx, judgeWriteMapEntry, h.operand_map, hg, htag, hrole, hlanes, hports]
  simp only [State.boundGroup_dequeue, State.mapConflict_dequeue, State.dequeue_map]
  cases mapEntryOf g (th ++ tl).toNat r.toNat lm pm <;> rfl

theorem clearMapEntry_asks (h : s.Asks p q .map 3 [BitVec.ofNat 8 i.val]) :
    exec .clearMapEntry s = .next (s.carryOut p q (
      if (s.boundGroup i).isSome then .refuse .inUse
      else .take false [] { s.dequeue p with map := s.map.set i clearedEntry })) := by
  have hx : exec .clearMapEntry s = .next (s.carryOut p q (judgeClearMapEntry p q (s.dequeue p))) :=
    exec_asks .clearMapEntry h rfl rfl
  rw [hx, judgeClearMapEntry, h.operand_map]
  simp only [State.boundGroup_dequeue, State.dequeue_map]

end Asked

/-- Settles O36, each request by the order of its checks. -/
theorem mapEntryWritesAndClears : Obligations.MapEntryWritesAndClears := by
  intro s p q i
  refine ⟨fun g th tl r lm pm h => ?_, fun h => ?_⟩
  · rw [writeMapEntry_asks h]
    simp only [State.boundGroup_isSome_iff, State.mapConflict_iff]
    refine ⟨fun hb => by rw [if_pos hb], fun hb => ?_⟩
    rw [if_neg (not_exists.mpr hb)]
    refine ⟨fun hc => by rw [if_pos hc], fun hc => ?_⟩
    rw [if_neg fun ⟨j, hji, hv, ht, hp⟩ => hp (hc j hji hv ht)]
    refine ⟨fun hbad => ?_, fun ro hro h1 h2 hl hl' hp hp' => ?_⟩
    · rw [mapEntryOf_refused (hbad.imp_right fun hv => ?_), Option.elim_none]
      rintro ⟨htag, hl, hl', hp, hp'⟩
      rcases hv with h | h | h | h | h | h
      · omega
      · omega
      · exact hl h
      · omega
      · exact hp h
      · omega
    · rw [mapEntryOf_role (hro ▸ roleOf_code ro), if_pos ⟨⟨h1, h2⟩, hl, hl', hp, hp'⟩]
      rfl
  · rw [clearMapEntry_asks h]
    simp only [State.boundGroup_isSome_iff]
    exact ⟨fun hb => by rw [if_pos hb], fun hb => by rw [if_neg (not_exists.mpr hb), clearedEntry]⟩

end Sys2Proof.Machine
end

section
/-! A downstream frame up to the classifier (R30 to R35, R39, R160, R169): each step of ingress by what it asks of the
frame, and what the frame leaves on its port. -/

namespace Sys2Proof.Machine

/-! ## The steps of ingress -/

/-- Step 2 (R32), for both kinds of frame. -/
theorem frameMalformed_iff (bs : List Byte) : frameMalformed bs = true ↔
    bs.length < 8 ∨ 0x1000 ≤ natAt16 bs 0
      ∨ natAt16 bs 0 < 0xFF0 ∧ (byteAt bs 5 ≠ 0 ∨ natAt8 bs 4 = 0 ∨ 6 < natAt8 bs 4
        ∨ bs.length ≠ 8 + 2 * natAt8 bs 4)
      ∨ 0xFF0 ≤ natAt16 bs 0 ∧ (120 < natAt16 bs 4 ∨ bs.length ≠ 8 + natAt16 bs 4) := by
  unfold frameMalformed tagField sampleCount
  by_cases hlen : bs.length < 8
  · simp [hlen]
  · by_cases hbig : 0xFFF < natAt16 bs 0
    · simp [hlen, hbig, Nat.succ_le_iff.mpr hbig]
    · have hle : ¬ 0x1000 ≤ natAt16 bs 0 := by omega
      by_cases hs : natAt16 bs 0 < 0xFF0
      · simp [hlen, hbig, hle, hs, Nat.not_le.mpr hs, or_assoc]
      · simp [hlen, hbig, hle, hs, Nat.not_lt.mp hs]

/-- A stream frame that step 2 lets pass. -/
theorem frameMalformed_stream {bs : List Byte} (ht : natAt16 bs 0 < 0xFF0) (h5 : byteAt bs 5 = 0)
    (h1 : 1 ≤ natAt8 bs 4) (h6 : natAt8 bs 4 ≤ 6) (hl : bs.length = 8 + 2 * natAt8 bs 4) :
    frameMalformed bs = false := by
  rw [Bool.eq_false_iff, Ne, frameMalformed_iff]
  rintro (h | h | ⟨-, h | h | h | h⟩ | ⟨h, -⟩)
  · omega
  · omega
  · exact h h5
  · omega
  · omega
  · exact h hl
  · omega

/-- A request frame that step 2 lets pass. -/
theorem frameMalformed_request {bs : List Byte} (ht : 0xFF0 ≤ natAt16 bs 0) (ht' : natAt16 bs 0 ≤ 0xFFF)
    (h4 : natAt16 bs 4 ≤ 120) (hl : bs.length = 8 + natAt16 bs 4) : frameMalformed bs = false := by
  rw [Bool.eq_false_iff, Ne, frameMalformed_iff]
  omega

theorem exec_downstreamFrame {s : State} (p : Port) (bs : List Byte) (h : s.resetInFlight = false) :
    exec (.downstreamFrame p bs) s = .next ((s.modPort p PortState.countReceived).ingress p bs) := by
  have hx : exec (.downstreamFrame p bs) s = execDownstreamFrame p bs s := rfl
  rw [hx, execDownstreamFrame, h]
  rfl

/-- A frame that the port alone answers leaves its arrival port changed, counted received first. -/
theorem exec_downstreamFrame_port {s : State} {p : Port} {bs : List Byte} {f : PortState → PortState}
    (h : s.resetInFlight = false)
    (hf : (s.modPort p PortState.countReceived).ingress p bs = (s.modPort p PortState.countReceived).modPort p f) :
    exec (.downstreamFrame p bs) s = .next (s.setPort p (f (s.port p).countReceived)) := by
  rw [exec_downstreamFrame p bs h, hf]
  cases p <;> rfl

/-! ## Class dispatch (R160) -/

theorem classOfTag_class (c : ReqClass) : classOfTag (0xFF0 + c.ix.val) = some c := by cases c <;> rfl

theorem classOfTag_none {n : Nat} (h : 0xFF7 ≤ n) : classOfTag n = none := by
  unfold classOfTag
  split <;> first | omega | rfl

theorem PortState.dispatch_unknown (x : PortState) {bs : List Byte} (h : 0xFF7 ≤ natAt16 bs 0) :
    x.dispatch bs = x.countUnknownClass := by
  rw [PortState.dispatch, tagField, classOfTag_none h]

section Dispatch

variable {x : PortState} {bs : List Byte} {c : ReqClass}

theorem PortState.dispatch_discarded (h : natAt16 bs 0 = 0xFF0 + c.ix.val) (ha : x.actionFor c = .discard) :
    x.dispatch bs = x.countDiscarded := by
  rw [PortState.dispatch, tagField, h, classOfTag_class]
  exact if_pos ha

theorem PortState.dispatch_overflow (h : natAt16 bs 0 = 0xFF0 + c.ix.val) (ha : x.actionFor c ≠ .discard)
    (hq : 4 ≤ x.requests.length) : x.dispatch bs = x.countOverflow := by
  rw [PortState.dispatch, tagField, h, classOfTag_class]
  exact (if_neg ha).trans (if_pos hq)

theorem PortState.dispatch_queued (h : natAt16 bs 0 = 0xFF0 + c.ix.val) (ha : x.actionFor c ≠ .discard)
    (hq : x.requests.length < 4) : x.dispatch bs = { x with
      requests := x.requests ++ [{ cls := c, id := byteAt bs 2, opcode := byteAt bs 3, operands := operandBytes bs,
                                   action := x.actionFor c }] } := by
  rw [PortState.dispatch, tagField, h, classOfTag_class]
  exact (if_neg ha).trans (if_neg (Nat.not_le.mpr hq))

end Dispatch

/-! ## Admission and lookup (R34, R35, R39) -/

/-- Whether a port's policy admits a tag, and the effective tag that it gives it. -/
structure PortPolicy.Admits (pol : PortPolicy) (tag effective : Nat) : Prop where
  untagged : tag = 0 → pol.policy ≠ .taggedOnly ∧ pol.defaultTag ≠ 0 ∧ effective = pol.defaultTag.toNat
  tagged : tag ≠ 0 → pol.policy ≠ .untaggedOnly ∧ effective = tag

theorem admissionRefuses_iff (a : Admission) (tag : Nat) :
    admissionRefuses a tag = true ↔ tag = 0 ∧ a = .taggedOnly ∨ tag ≠ 0 ∧ a = .untaggedOnly := by
  cases a <;> simp [admissionRefuses]

theorem effectiveTag_eq_zero (pol : PortPolicy) (tag : Nat) :
    effectiveTag pol tag = 0 ↔ tag = 0 ∧ pol.defaultTag = 0 := by
  have hz : pol.defaultTag.toNat = 0 ↔ pol.defaultTag = 0 := BitVec.toNat_eq (y := 0#12).symm
  by_cases h : tag = 0 <;> simp [effectiveTag, h, hz]

section Stream

variable {s : State} {p : Port} {bs : List Byte} {effective : Nat}

theorem State.streamFrame_refused
    (h : natAt16 bs 0 = 0 ∧ ((s.port p).policy.policy = .taggedOnly ∨ (s.port p).policy.defaultTag = 0)
      ∨ natAt16 bs 0 ≠ 0 ∧ (s.port p).policy.policy = .untaggedOnly) :
    s.streamFrame p bs = s.modPort p PortState.countAdmitRefused := by
  unfold State.streamFrame tagField
  dsimp only
  split
  · rfl
  · next ha =>
    rw [admissionRefuses_iff] at ha
    rw [if_pos ((effectiveTag_eq_zero _ _).mpr (by tauto))]

theorem PortPolicy.Admits.passes {pol : PortPolicy} {tag : Nat} (h : pol.Admits tag effective) :
    admissionRefuses pol.policy tag = false ∧ effectiveTag pol tag = effective ∧ effective ≠ 0 := by
  have ha : admissionRefuses pol.policy tag = false := by
    rw [Bool.eq_false_iff, Ne, admissionRefuses_iff]
    rintro (⟨h0, hp⟩ | ⟨h0, hp⟩)
    · exact (h.untagged h0).1 hp
    · exact (h.tagged h0).1 hp
  have he : effectiveTag pol tag = effective := by
    by_cases h0 : tag = 0
    · rw [effectiveTag, if_pos h0, (h.untagged h0).2.2]
    · rw [effectiveTag, if_neg h0, (h.tagged h0).2]
  refine ⟨ha, he, fun hz => ?_⟩
  obtain ⟨h0, hd⟩ := (effectiveTag_eq_zero pol tag).mp (he.trans hz)
  exact (h.untagged h0).2.1 hd

theorem State.streamFrame_unmatched (h : (s.port p).policy.Admits (natAt16 bs 0) effective)
    (hl : s.lookup effective p = none) : s.streamFrame p bs = s.modPort p PortState.countUnknownTag := by
  obtain ⟨ha, he, hne⟩ := h.passes
  simp only [State.streamFrame, tagField, ha, he, hne, hl]
  rfl

theorem State.streamFrame_matched {i : MapIx} (h : (s.port p).policy.Admits (natAt16 bs 0) effective)
    (hl : s.lookup effective p = some i) :
    ((s.map.get i).role = .primary → s.streamFrame p bs = s.primaryFrame p i (s.map.get i) bs)
      ∧ ((s.map.get i).role = .trim → s.streamFrame p bs = s.trimFrame p i (s.map.get i) bs) := by
  obtain ⟨ha, he, hne⟩ := h.passes
  constructor <;> intro hr <;> simp [State.streamFrame, tagField, ha, he, hne, hl, hr]

end Stream

theorem MapEntry.matchesFrame_iff (e : MapEntry) (tag : Nat) (p : Port) : e.matchesFrame tag p = true ↔
    e.valid = true ∧ e.tag.toNat = tag ∧ e.portMask.getLsbD (portCode p) = true := by
  simp [MapEntry.matchesFrame, portBit, and_assoc]

@[simp] theorem State.lookup_modPort (s : State) (r : Port) (f : PortState → PortState) (tag : Nat) (p : Port) :
    (s.modPort r f).lookup tag p = s.lookup tag p := by
  simp [State.lookup]

/-- Settles O58, step by step of ingress. -/
theorem downstreamFramesStopAtTheFirstFault : Obligations.DownstreamFramesStopAtTheFirstFault := by
  rintro s p bs x tag received rfl rfl rfl
  refine ⟨fun h => by simp [exec, execDownstreamFrame, h], fun h => ⟨fun hc => ?_, fun hc => ⟨fun hm => ?_, ?_, ?_⟩⟩⟩
  · exact exec_downstreamFrame_port h (State.ingress_checkError hc)
  · exact exec_downstreamFrame_port h (State.ingress_malformed hc ((frameMalformed_iff bs).mpr hm))
  · intro ht ht' h4 hl
    have hrun := exec_downstreamFrame_port h
      (State.ingress_request (s := s.modPort p PortState.countReceived) (p := p) hc
        (frameMalformed_request ht ht' h4 hl) ht)
    rw [hrun]
    refine ⟨fun hu => ?_, fun c hcls => ⟨fun ha => ?_, fun ha hq => ?_, fun ha hq => ?_⟩⟩
    · rw [PortState.dispatch_unknown _ hu]
      rfl
    · rw [PortState.dispatch_discarded hcls (x := (s.port p).countReceived) ha]
      rfl
    · rw [PortState.dispatch_overflow hcls (x := (s.port p).countReceived) ha hq]
      rfl
    · rw [PortState.dispatch_queued hcls (x := (s.port p).countReceived) ha hq]
      rfl
  · intro ht h5 h1 h6 hl
    have hstream := State.ingress_stream (s := s.modPort p PortState.countReceived) (p := p) hc
      (frameMalformed_stream ht h5 h1 h6 hl) ht
    refine ⟨fun href => ?_, fun effective hu hg hnone => ?_⟩
    · exact exec_downstreamFrame_port h (hstream.trans (State.streamFrame_refused (by simpa using href)))
    · have hadm : ((s.modPort p PortState.countReceived).port p).policy.Admits (natAt16 bs 0) effective := by
        simpa using PortPolicy.Admits.mk hu hg
      have hlook : s.lookup effective p = none := by
        refine State.lookup_none fun i => ?_
        rw [Bool.eq_false_iff, Ne, MapEntry.matchesFrame_iff]
        rintro ⟨hv, htag, hp⟩
        rw [hnone i hv htag] at hp
        cases hp
      exact exec_downstreamFrame_port h (hstream.trans (State.streamFrame_unmatched hadm (by simpa using hlook)))

end Sys2Proof.Machine
end

section
/-! The replay queue's arrivals (R52 to R60, R126): what each judgement of a gap leaves of the group, and the
SEQ_BREAK event that a gap past the fill limit raises, as one trip of the group that the arrival left. -/

namespace Sys2Proof.Machine

/-! ## The gap of an arrival (R55 to R59) -/

/-- How far a sequence number lies past the expected one; 0 with none expected (R54, R55). -/
def Group.gapTo (x : Group) (seq : Seq) : Nat :=
  match x.expected with
  | none => 0
  | some w => (seq - w).toNat

/-- The group with its gap counted and filled, where there is one (R57). -/
def Group.padded (x : Group) (gap : Nat) : Group := if gap = 0 then x else (x.countGap gap).insertFillers gap

/-- The group after a frame past the fill limit, before the trip unit handles the event (R58). -/
def Group.broken (x : Group) (seq : Seq) (slots : Tab 6 (Option Du)) (gap : Nat) : Group :=
  ((x.countGap gap).countBreak.insertFrame (frameEntry seq slots)).expectAfter seq

section Arrival

variable {x : Group} {seq : Seq}

theorem Group.gapTo_none (h : x.expected = none) : x.gapTo seq = 0 := by rw [Group.gapTo, h]

theorem Group.gapTo_some {w : Seq} (h : x.expected = some w) : x.gapTo seq = (seq - w).toNat := by
  rw [Group.gapTo, h]

theorem Group.judge_stale (h : 32767 < x.gapTo seq) : judgeArrival x.expected x.cfg.gapFill seq = .stale := by
  rcases he : x.expected with _ | w
  · rw [Group.gapTo_none he] at h
    omega
  · rw [Group.gapTo_some he] at h
    have h0 : (seq - w).toNat ≠ 0 := by omega
    exact (if_neg h0).trans (if_pos h)

theorem Group.judge_break (h : x.cfg.gapFill < x.gapTo seq) (h' : x.gapTo seq ≤ 32767) :
    judgeArrival x.expected x.cfg.gapFill seq = .seqBreak (x.gapTo seq) := by
  rcases he : x.expected with _ | w
  · rw [Group.gapTo_none he] at h
    omega
  · rw [Group.gapTo_some he] at h h' ⊢
    have h0 : (seq - w).toNat ≠ 0 := by omega
    exact (if_neg h0).trans ((if_neg (Nat.not_lt.mpr h')).trans (if_neg (Nat.not_le.mpr h)))

theorem Group.judge_joined (h : x.gapTo seq ≤ x.cfg.gapFill) (h' : x.gapTo seq ≤ 32767) :
    judgeArrival x.expected x.cfg.gapFill seq ∈ [Arrival.first, .inOrder] ∧ x.gapTo seq = 0
      ∨ judgeArrival x.expected x.cfg.gapFill seq = .shortGap (x.gapTo seq) ∧ x.gapTo seq ≠ 0 := by
  rcases he : x.expected with _ | w
  · exact .inl ⟨by simp [judgeArrival], Group.gapTo_none he⟩
  · rw [Group.gapTo_some he] at h h' ⊢
    by_cases h0 : (seq - w).toNat = 0
    · exact .inl ⟨by simp only [judgeArrival, h0, if_true]; decide, h0⟩
    · exact .inr ⟨(if_neg h0).trans ((if_neg (Nat.not_lt.mpr h')).trans (if_pos h)), h0⟩

/-- The group that an arrival leaves, with the event that it raises (R60). -/
theorem Group.arrive_stale (slots : Tab 6 (Option Du)) (h : 32767 < x.gapTo seq) :
    x.arrive seq slots = (x.countStale, false) := by
  rw [Group.arrive, Group.judge_stale h]

theorem Group.arrive_joined (slots : Tab 6 (Option Du)) (h : x.gapTo seq ≤ x.cfg.gapFill)
    (h' : x.gapTo seq ≤ 32767) : x.arrive seq slots =
      (((x.padded (x.gapTo seq)).insertFrame (frameEntry seq slots)).expectAfter seq, false) := by
  rcases Group.judge_joined h h' with ⟨hj, h0⟩ | ⟨hj, h0⟩
  · rw [h0, Group.padded, if_pos rfl]
    simp only [List.mem_cons, List.not_mem_nil, or_false] at hj
    rcases hj with hj | hj <;> rw [Group.arrive, hj]
  · rw [Group.arrive, hj, Group.padded, if_neg h0]

theorem Group.arrive_broken (slots : Tab 6 (Option Du)) (h : x.cfg.gapFill < x.gapTo seq)
    (h' : x.gapTo seq ≤ 32767) : x.arrive seq slots = (x.broken seq slots (x.gapTo seq), true) := by
  rw [Group.arrive, Group.judge_break h h']
  rfl

end Arrival

/-! ## What an arrival leaves, field by field -/

/-- The frame at the tail, or an overflow (R56). -/
theorem Group.insertFrame_eq (x : Group) (e : QEntry) : x.insertFrame e = { x with
    queue := x.queue ++ (if x.queue.length < 64 then [e] else [])
    tallies := if x.queue.length < 64 then { x.tallies with enqueued := satAdd x.tallies.enqueued 1 } else x.tallies
    ctr := { x.ctr with overflowDrops :=
      if x.queue.length < 64 then x.ctr.overflowDrops else satAdd x.ctr.overflowDrops 1 } } := by
  by_cases h : x.queue.length < 64
  · have hr : 0 < x.room := Nat.sub_pos_of_lt h
    simp only [Group.insertFrame, hr, h, if_true]
    rfl
  · have hr : ¬ 0 < x.room := by
      unfold Group.room Config.queueCapacity
      omega
    simp only [Group.insertFrame, hr, h, if_false, List.append_nil]

theorem Group.padded_eq (x : Group) (gap : Nat) : x.padded gap = { x with
    queue := x.queue ++ List.replicate (min gap (64 - x.queue.length)) fillerEntry
    tallies := if gap = 0 then x.tallies
      else { x.tallies with enqueued := satAdd x.tallies.enqueued (min gap (64 - x.queue.length)) }
    ctr := { x.ctr with
      gapFrames := if gap = 0 then x.ctr.gapFrames else satAdd x.ctr.gapFrames gap
      fillerEntries := if gap = 0 then x.ctr.fillerEntries
        else satAdd x.ctr.fillerEntries (min gap (64 - x.queue.length)) } } := by
  by_cases h : gap = 0
  · simp [Group.padded, h]
  · simp only [Group.padded, h, if_false, Group.insertFillers, Group.insert, List.length_replicate]
    rfl

theorem Group.padded_room (x : Group) (gap : Nat) :
    (x.padded gap).queue.length < 64 ↔ x.queue.length + gap < 64 := by
  rw [Group.padded_eq]
  simp only [List.length_append, List.length_replicate]
  omega

/-- The group after a frame in order or at a short gap (R55 to R57). -/
theorem Group.joined_eq (x : Group) (seq : Seq) (slots : Tab 6 (Option Du)) (gap : Nat) :
    ((x.padded gap).insertFrame (frameEntry seq slots)).expectAfter seq = { x with
      queue := (x.queue ++ List.replicate (min gap (64 - x.queue.length)) fillerEntry)
        ++ (if x.queue.length + gap < 64 then [frameEntry seq slots] else [])
      expected := some (seq + 1)
      tallies := if x.queue.length + gap < 64 then
          { (x.padded gap).tallies with enqueued := satAdd (x.padded gap).tallies.enqueued 1 }
        else (x.padded gap).tallies
      ctr := { x.ctr with
        gapFrames := if gap = 0 then x.ctr.gapFrames else satAdd x.ctr.gapFrames gap
        fillerEntries := if gap = 0 then x.ctr.fillerEntries
          else satAdd x.ctr.fillerEntries (min gap (64 - x.queue.length))
        overflowDrops := if x.queue.length + gap < 64 then x.ctr.overflowDrops
          else satAdd x.ctr.overflowDrops 1 } } := by
  rw [Group.insertFrame_eq]
  simp only [Group.padded_room]
  rw [Group.padded_eq]
  rfl

theorem Group.broken_eq (x : Group) (seq : Seq) (slots : Tab 6 (Option Du)) (gap : Nat) :
    x.broken seq slots gap = { x with
      queue := x.queue ++ (if x.queue.length < 64 then [frameEntry seq slots] else [])
      expected := some (seq + 1)
      tallies := if x.queue.length < 64 then { x.tallies with enqueued := satAdd x.tallies.enqueued 1 } else x.tallies
      ctr := { x.ctr with
        gapFrames := satAdd x.ctr.gapFrames gap
        seqBreaks := satAdd x.ctr.seqBreaks 1
        overflowDrops := if x.queue.length < 64 then x.ctr.overflowDrops
          else satAdd x.ctr.overflowDrops 1 } } := by
  rw [Group.broken, Group.insertFrame_eq]
  rfl

/-- What a gap adds to the enqueued tally: the fillers and the frame, as far as there is room (R5, R56 to R58). -/
def Group.inserted (x : Group) (gap : Nat) : Nat :=
  if gap ≤ x.cfg.gapFill then min gap (64 - x.queue.length) + (if x.queue.length + gap < 64 then 1 else 0)
  else if x.queue.length < 64 then 1 else 0

theorem Group.padded_tallies {x : Group} (gap : Nat) (hx : x.tallies.enqueued ≤ 4294967295) :
    (x.padded gap).tallies =
      { x.tallies with enqueued := satAdd x.tallies.enqueued (min gap (64 - x.queue.length)) } := by
  rw [Group.padded_eq]
  split
  · next h =>
    have hsame : satAdd x.tallies.enqueued (min gap (64 - x.queue.length)) = x.tallies.enqueued := by
      rw [h, Nat.zero_min]
      exact Nat.min_eq_left hx
    rw [hsame]
  · rfl

theorem satAdd_satAdd (n k m : Nat) : satAdd (satAdd n k) m = satAdd n (k + m) := by
  unfold satAdd
  omega

theorem Group.arrive_tallies {x : Group} {seq : Seq} (slots : Tab 6 (Option Du)) (h' : x.gapTo seq ≤ 32767)
    (hx : x.tallies.enqueued ≤ 4294967295) : (x.arrive seq slots).1.tallies =
      { x.tallies with enqueued := satAdd x.tallies.enqueued (x.inserted (x.gapTo seq)) } := by
  have hsame : satAdd x.tallies.enqueued 0 = x.tallies.enqueued := Nat.min_eq_left hx
  rcases Nat.lt_or_ge x.cfg.gapFill (x.gapTo seq) with h | h
  · rw [Group.arrive_broken slots h h', Group.broken_eq, Group.inserted, if_neg (Nat.not_le.mpr h)]
    split
    · rfl
    · rw [hsame]
  · rw [Group.arrive_joined slots h h', Group.joined_eq, Group.inserted, if_pos h, Group.padded_tallies _ hx]
    split
    · rw [satAdd_satAdd]
    · rfl

/-! ## The SEQ_BREAK event (R58, R126) -/

theorem groupEvent_off {t : Treatment} (k : Kind) (l : Option LaneIx) (h : t.mode = .off) :
    groupEvent k l t = [] := if_pos h

theorem groupEvent_on {t : Treatment} (k : Kind) (l : Option LaneIx) (h : t.mode ≠ .off) :
    groupEvent k l t = [{ kind := k, lane := l, mode := t.mode, action := some t.action, observed := none }] :=
  if_neg h

/-- An action trip's action moves neither the latched kinds nor the counters (R144). -/
theorem Group.applyAction_records {x : Group} (a : Option Action) (r : Bool) (h : x.target ≠ some .idle) :
    (x.applyAction a r).latched = x.latched ∧ (x.applyAction a r).ctr = x.ctr := by
  unfold Group.applyAction
  split
  · exact ⟨rfl, rfl⟩
  · by_cases hs : strength x.action < strength a
    · simp only [hs, decide_true, if_true]
      split
      · exact ⟨rfl, rfl⟩
      · exact Group.actBy_keeps (law := fun t => t.latched = x.latched ∧ t.ctr = x.ctr) a h (fun _ => ⟨rfl, rfl⟩)
          (fun _ => ⟨rfl, rfl⟩) (fun _ => ⟨rfl, rfl⟩) (fun _ => ⟨rfl, rfl⟩) ⟨rfl, rfl⟩
    · simp only [hs, decide_false, Bool.false_eq_true, if_false]
      split <;> exact ⟨rfl, rfl⟩

theorem Group.openEpisode_records (x : Group) :
    x.openEpisode.latched = x.latched ∧ x.openEpisode.ctr = x.ctr := by
  unfold Group.openEpisode
  split <;> exact ⟨rfl, rfl⟩

/-- What an action trip latches and counts (R140, R141). -/
theorem Group.actionTrip_records (x : Group) (ev : MonEvent) :
    (x.actionTrip ev).latched = (x.latch ev.kind .action).latched
      ∧ (x.actionTrip ev).ctr = { x.ctr with trips := satAdd x.ctr.trips 1 } := by
  obtain ⟨hl, hc⟩ := (x.recordTrip ev (x.retryable ev.mode)).openEpisode_records
  obtain ⟨hl', hc'⟩ := Group.applyAction_records
    (x := { (x.recordTrip ev (x.retryable ev.mode)).openEpisode with
      target := some (targetAfter x.target (x.retryable ev.mode)) })
    ev.action (x.retryable ev.mode) (by simp [targetAfter_ne_idle])
  exact ⟨hl'.trans hl, hc'.trans hc⟩

/-- A trip of a group outside IDLE leaves its kind latched, and counts unless it reports alone (R140 to R142). -/
theorem Group.trip_records {x : Group} {ev : MonEvent} (h : x.state ≠ .idle) (hm : ev.mode ≠ .off) :
    (x.trip ev).classOf ev.kind ≠ none ∧ (x.trip ev).ctr =
      { x.ctr with trips := if ev.mode = .report then x.ctr.trips else satAdd x.ctr.trips 1 } := by
  by_cases hr : ev.mode = .report
  · rw [(Group.trip_active h).1 hr, Group.classOf_latch, if_pos rfl, if_pos hr]
    exact ⟨joinClass_ne_none _ _, rfl⟩
  · have hact : ev.mode = .latch ∨ ev.mode = .retry := by
      revert hm hr
      cases ev.mode <;> simp
    obtain ⟨hl, hc⟩ := x.actionTrip_records ev
    rw [(Group.trip_active h).2 hact, if_neg hr, hc, Group.classOf, hl]
    refine ⟨?_, rfl⟩
    change (x.latch ev.kind .action).classOf ev.kind ≠ none
    rw [Group.classOf_latch, if_pos rfl]
    exact joinClass_ne_none _ _

/-- A trip of a group outside FAULTED empties the queue where it enters FAULTED, and there alone (R17, R66). -/
theorem Group.trip_queue {x : Group} (ev : MonEvent) (h : x.state ≠ .faulted) :
    ((x.trip ev).state ≠ .faulted ∧ (x.trip ev).queue = x.queue)
      ∨ (x.trip ev).state = .faulted ∧ (x.trip ev).queue = [] := by
  have moved (y : Group) {z : Group} (hz : z.state ≠ .faulted) (hq : z.queue = y.queue) (hy : y.state ≠ .faulted)
      (hl : (y.state ≠ .faulted ∧ y.queue = x.queue) ∨ y.state = .faulted ∧ y.queue = []) :
      (z.state ≠ .faulted ∧ z.queue = x.queue) ∨ z.state = .faulted ∧ z.queue = [] :=
    hl.elim (fun hl => .inl ⟨hz, hq.trans hl.2⟩) fun hl => absurd hl.1 hy
  refine Group.trip_keeps
    (law := fun t => (t.state ≠ .faulted ∧ t.queue = x.queue) ∨ t.state = .faulted ∧ t.queue = [])
    (fun _ _ _ h => h) (fun _ _ _ h => h) (fun _ _ _ _ h => h)
    (fun y hs hl => moved y (by simp) rfl (fun hf => ?_) hl) (fun _ _ _ => .inr ⟨rfl, rfl⟩)
    (fun y hs hl => moved y (by simp) rfl (fun hf => ?_) hl)
    (fun y hs hl => moved y (by simp) rfl (fun hf => ?_) hl) ev (.inl ⟨h, rfl⟩)
  · simp [hf, GState.entersTarget] at hs
  · simp [hf, GState.live] at hs
  · simp [hf, GState.live] at hs

end Sys2Proof.Machine
end

section
/-! A matched stream frame (R39, R43, R44, R49, R50, R54 to R59): lane mapping, what its role's dispatch leaves of its
group, the map and its port, and what every such frame leaves alone. -/

namespace Sys2Proof.Machine

/-! ## Lane mapping (R44) -/

@[simp] theorem samplesOf_length (bs : List Byte) : (samplesOf bs).length = natAt8 bs 4 := by
  simp [samplesOf, sampleCount]

theorem samplesOf_getElem? (bs : List Byte) (k : Nat) :
    (samplesOf bs)[k]? = if k < natAt8 bs 4 then some (wordAt bs (6 + 2 * k)) else none := by
  by_cases h : k < natAt8 bs 4 <;> simp [samplesOf, sampleCount, h]

/-- The slot of a lane: the sample of its rank among the lanes named, if it is named and there is one. -/
theorem laneSlots_get (mask : BitVec 6) (bs : List Byte) (l : LaneIx) : (laneSlots mask (samplesOf bs)).get l =
    if mask.getLsbD l.val = true ∧ lanesBelow mask l < natAt8 bs 4 then
      some (wordAt bs (6 + 2 * lanesBelow mask l)) else none := by
  rw [laneSlots, Tab.get_of, samplesOf_getElem?, ite_and]

theorem State.port_noteExcess (s : State) (p : Port) (e : MapEntry) (bs : List Byte) :
    (s.noteExcess p e bs).port p = { s.port p with ctr := { (s.port p).ctr with
      excessSamples := if laneCount e.laneMask < natAt8 bs 4 then satAdd (s.port p).ctr.excessSamples 1
        else (s.port p).ctr.excessSamples } } := by
  have hx : excess e.laneMask (samplesOf bs) = decide (laneCount e.laneMask < natAt8 bs 4) := by
    rw [excess, samplesOf_length]
  rw [State.noteExcess, hx]
  by_cases h : laneCount e.laneMask < natAt8 bs 4
  · simp only [h, decide_true, if_true, State.port_modPort]
    rfl
  · simp [h]

theorem State.port_noteExcess_other (s : State) (p : Port) (e : MapEntry) (bs : List Byte) :
    (s.noteExcess p e bs).port (otherPort p) = s.port (otherPort p) := by
  unfold State.noteExcess
  split <;> simp

/-! ## The PRIMARY role (R43) -/

/-- The fate of a PRIMARY frame at its group, with what it tells of the group (the table of R43). -/
theorem Group.judgePrimary_cases (x : Group) (i : MapIx) :
    x.judgePrimary i = .unbound ∧ (x.bound ≠ some i ∨ x.state = .idle)
      ∨ x.judgePrimary i = .refused ∧ (x.bound = some i ∧ x.state ≠ .idle)
        ∧ (x.source = .generator ∨ x.state = .faulted)
      ∨ x.judgePrimary i = .queued ∧ (x.bound = some i ∧ x.state ≠ .idle)
        ∧ x.source = .stream ∧ x.state ≠ .faulted := by
  unfold Group.judgePrimary
  split
  · next hu => exact .inl ⟨rfl, hu⟩
  · next hu =>
    rw [not_or, not_not] at hu
    split
    · next hg => exact .inr (.inl ⟨rfl, hu, .inl hg⟩)
    · next hg =>
      have hs : x.source = .stream := by
        revert hg
        cases x.source <;> simp
      split
      · next hf => exact .inr (.inl ⟨rfl, hu, .inr hf⟩)
      · next hf => exact .inr (.inr ⟨rfl, hu, hs, hf⟩)

/-- The group that a drive frame leaves: after its arrival, and after the SEQ_BREAK monitor's event where the arrival
raises one (R45, R58, R126). -/
def Group.driven (x : Group) (seq : Seq) (slots : Tab 6 (Option Du)) : Group :=
  (x.arrive seq slots).1.tripAll
    (if (x.arrive seq slots).2 then groupEvent .seqBreak none (x.arrive seq slots).1.cfg.seqBreak else [])

theorem State.driveArrival_group (s : State) (g : GroupIx) (seq : Seq) (slots : Tab 6 (Option Du)) :
    (s.driveArrival g seq slots).group g = (s.group g).driven seq slots := by
  unfold State.driveArrival Group.driven
  dsimp only
  split <;> simp

theorem State.driveArrival_group_ne (s : State) {g h : GroupIx} (seq : Seq) (slots : Tab 6 (Option Du))
    (hne : h ≠ g) : (s.driveArrival g seq slots).group h = s.group h := by
  unfold State.driveArrival
  dsimp only
  split
  · rw [State.group_deliver_ne _ _ hne, State.group_setGroup_ne _ _ hne]
  · rw [State.group_setGroup_ne _ _ hne]

@[simp] theorem State.driveArrival_map (s : State) (g : GroupIx) (seq : Seq) (slots : Tab 6 (Option Du)) :
    (s.driveArrival g seq slots).map = s.map := by
  unfold State.driveArrival
  dsimp only
  split <;> rfl

section Driven

variable {x : Group} {seq : Seq} (slots : Tab 6 (Option Du))

theorem Group.driven_stale (h : 32767 < x.gapTo seq) : x.driven seq slots = x.countStale := by
  rw [Group.driven, Group.arrive_stale slots h]
  rfl

theorem Group.driven_joined (h : x.gapTo seq ≤ x.cfg.gapFill) (h' : x.gapTo seq ≤ 32767) : x.driven seq slots =
    ((x.padded (x.gapTo seq)).insertFrame (frameEntry seq slots)).expectAfter seq := by
  rw [Group.driven, Group.arrive_joined slots h h']
  rfl

theorem Group.driven_broken (h : x.cfg.gapFill < x.gapTo seq) (h' : x.gapTo seq ≤ 32767) : x.driven seq slots =
    (x.broken seq slots (x.gapTo seq)).tripAll (groupEvent .seqBreak none x.cfg.seqBreak) := by
  have hcfg : (x.broken seq slots (x.gapTo seq)).cfg = x.cfg := by rw [Group.broken_eq]
  rw [Group.driven, Group.arrive_broken slots h h']
  simp only [if_true, hcfg]

/-- The tallies that a drive frame leaves, but for what a trip flushes (R5, R67). -/
theorem Group.driven_tallies (h' : x.gapTo seq ≤ 32767) (hx : x.tallies.enqueued ≤ 4294967295) :
    (x.driven seq slots).tallies.enqueued = satAdd x.tallies.enqueued (x.inserted (x.gapTo seq))
      ∧ (x.driven seq slots).tallies.played = x.tallies.played
      ∧ (x.driven seq slots).tallies.skipped = x.tallies.skipped := by
  obtain ⟨-, -, -, -, -, -, -, -, -, -, -, -, -, -, hen, hpl, hsk, -⟩ := Group.tripAll_sameRun (x.arrive seq slots).1
    (if (x.arrive seq slots).2 then groupEvent .seqBreak none (x.arrive seq slots).1.cfg.seqBreak else [])
  rw [Group.driven, hen, hpl, hsk, Group.arrive_tallies slots h' hx]
  exact ⟨rfl, rfl, rfl⟩

end Driven

/-! ## The TRIM role (R49, R50) -/

section Trim

variable {e : MapEntry} {seq : Seq}

theorem MapEntry.acceptsTrim_stale
    (h : ∃ last : Seq, e.lastTrim = some last ∧ ((seq - last).toNat = 0 ∨ 32768 ≤ (seq - last).toNat)) :
    e.acceptsTrim seq = false := by
  obtain ⟨last, hl, h⟩ := h
  simp only [MapEntry.acceptsTrim, hl, newer, Bool.and_eq_false_iff, decide_eq_false_iff_not]
  omega

theorem MapEntry.acceptsTrim_newer
    (h : ∀ last : Seq, e.lastTrim = some last → 1 ≤ (seq - last).toNat ∧ (seq - last).toNat ≤ 32767) :
    e.acceptsTrim seq = true := by
  rcases hl : e.lastTrim with _ | last
  · rw [MapEntry.acceptsTrim, hl]
  · simpa [MapEntry.acceptsTrim, hl, newer] using h last hl

end Trim

/-- Each named lane's trim after an accepted trim frame (R50). -/
theorem Group.takeTrims_chan (x : Group) (slots : Tab 6 (Option Du)) (l : LaneIx) :
    (x.takeTrims slots).chans.get l =
      { x.chans.get l with trim := (slots.get l).getD (x.chans.get l).trim } := by
  rw [Group.takeTrims, Tab.get_mapIx, Channel.takeTrim_frame, Channel.takeTrim_trim]

/-! ## The dispatch of a matched frame -/

/-- At most one entry matches, so a valid one on the port with the tag is the one found (R39, R40). -/
theorem State.lookup_entry {s : State} (hm : s.MapLaw) {p : Port} {i : MapIx} (hv : (s.map.get i).valid = true)
    (hp : (s.map.get i).portMask.getLsbD (portCode p) = true) : s.lookup (s.map.get i).tag.toNat p = some i := by
  refine State.lookup_unique ((MapEntry.matchesFrame_iff _ _ _).mpr ⟨hv, rfl, hp⟩) fun j hj => ?_
  obtain ⟨hv', ht, hp'⟩ := (MapEntry.matchesFrame_iff _ _ _).mp hj
  refine hm.2 j i hv' hv (BitVec.eq_of_toNat_eq ht) fun hz => ?_
  have hb := congrArg (fun v => v.getLsbD (portCode p)) hz
  simp [hp, hp'] at hb

/-- What a matched stream frame leaves alone, and what it moves on its port. -/
abbrev State.StreamLeaves (s : State) (p : Port) (g : GroupIx) (t : State) : Prop :=
  (∀ h : GroupIx, h ≠ g → t.group h = s.group h)
    ∧ t = { s with
        map := t.map, groups := t.groups, portA := t.portA, portB := t.portB,
        faultLine := t.faultLine, alertLine := t.alertLine }
    ∧ t.port (otherPort p) = s.port (otherPort p)
    ∧ t.port p = { s.port p with ctr := { (s.port p).ctr with
        framesReceived := min ((s.port p).ctr.framesReceived + 1) 4294967295,
        excessSamples := (t.port p).ctr.excessSamples } }

section Leaves

variable {s t : State} {p : Port} {g : GroupIx}

theorem State.FrameFate.streamLeaves {n : Nat} (hf : (s.modPort p PortState.countReceived).FrameFate p t)
    (hg : ∀ h : GroupIx, h ≠ g → t.group h = s.group h) (ho : t.port (otherPort p) = s.port (otherPort p))
    (hp : t.port p = { s.port p with ctr := { (s.port p).ctr with
      framesReceived := satAdd (s.port p).ctr.framesReceived 1, excessSamples := n } }) :
    s.StreamLeaves p g t ∧ (t.port p).ctr.excessSamples = n := by
  have hframe : t = { s with map := t.map, groups := t.groups, portA := t.portA, portB := t.portB,
                             faultLine := t.faultLine, alertLine := t.alertLine } := by
    refine hf.frame.trans ?_
    cases p <;> rfl
  refine ⟨⟨hg, hframe, ho, ?_⟩, by rw [hp]⟩
  rw [hp]
  rfl

/-- A frame dropped at its group counts there alone, besides FRAMES_RECEIVED. -/
theorem State.StreamLeaves.modGroup (s : State) (p : Port) (g : GroupIx) {f : Group → Group}
    (hf : (s.modPort p PortState.countReceived).FrameFate p
      ((s.modPort p PortState.countReceived).modGroup g f)) :
    s.StreamLeaves p g ((s.modPort p PortState.countReceived).modGroup g f)
      ∧ (((s.modPort p PortState.countReceived).modGroup g f).port p).ctr.excessSamples
        = (s.port p).ctr.excessSamples := by
  refine hf.streamLeaves (fun h hne => ?_) (by simp) (by simp [PortState.countReceived])
  rw [State.group_modGroup_ne _ _ hne, State.group_modPort]

/-- A frame that is lane-mapped counts its samples left over, besides FRAMES_RECEIVED (R44). -/
theorem State.StreamLeaves.mapped {e : MapEntry} {bs : List Byte}
    (hf : (s.modPort p PortState.countReceived).FrameFate p t)
    (hg : ∀ h : GroupIx, h ≠ g → t.group h = s.group h)
    (hp : ∀ r : Port, t.port r = ((s.modPort p PortState.countReceived).noteExcess p e bs).port r) :
    s.StreamLeaves p g t ∧ (t.port p).ctr.excessSamples =
      if laneCount e.laneMask < natAt8 bs 4 then satAdd (s.port p).ctr.excessSamples 1
      else (s.port p).ctr.excessSamples := by
  refine hf.streamLeaves hg ?_ ?_
  · rw [hp, State.port_noteExcess_other, State.port_modPort_other]
  · rw [hp, State.port_noteExcess, State.port_modPort]
    rfl

end Leaves

/-! ## The statement -/

/-- A frame past the fill limit whose monitor is on: the group as the arrival left it, tripped once (R58, R126). -/
theorem Group.driven_tripped {x : Group} {seq : Seq} (slots : Tab 6 (Option Du)) (h : x.cfg.gapFill < x.gapTo seq)
    (h' : x.gapTo seq ≤ 32767) (hm : x.cfg.seqBreak.mode ≠ .off) : x.driven seq slots =
      (x.broken seq slots (x.gapTo seq)).trip
        { kind := .seqBreak, lane := none, mode := x.cfg.seqBreak.mode, action := some x.cfg.seqBreak.action,
          observed := none } := by
  rw [Group.driven_broken slots h h', groupEvent_on _ _ hm, Group.tripAll_cons, Group.tripAll_nil]

/-- What that trip leaves of the group that the arrival left (R17, R58, R139 to R142). -/
theorem Group.driven_tripped_leaves {x : Group} {seq : Seq} (slots : Tab 6 (Option Du))
    (h : x.cfg.gapFill < x.gapTo seq) (h' : x.gapTo seq ≤ 32767) (hm : x.cfg.seqBreak.mode ≠ .off)
    (hs : x.state ≠ .idle) (hf : x.state ≠ .faulted) {y : Group} (hy : y = x.broken seq slots (x.gapTo seq)) :
    (x.driven seq slots).expected = some (seq + 1) ∧ (x.driven seq slots).classOf .seqBreak ≠ none
      ∧ (x.driven seq slots).ctr = { y.ctr with
          trips := if x.cfg.seqBreak.mode = .report then y.ctr.trips else satAdd y.ctr.trips 1 }
      ∧ ((x.driven seq slots).state ≠ .faulted → (x.driven seq slots).queue = y.queue)
      ∧ ((x.driven seq slots).state = .faulted → (x.driven seq slots).queue = [])
      ∧ (x.cfg.seqBreak.mode = .report →
          x.driven seq slots =
            { y with tallies := (x.driven seq slots).tallies, latched := (x.driven seq slots).latched }) := by
  rw [Group.driven_tripped slots h h' hm, ← hy]
  rw [Group.broken_eq] at hy
  have hys : y.state ≠ .idle := by rw [hy]; exact hs
  have hyf : y.state ≠ .faulted := by rw [hy]; exact hf
  have hye : y.expected = some (seq + 1) := by rw [hy]
  set ev : MonEvent := { kind := .seqBreak, lane := none, mode := x.cfg.seqBreak.mode,
                         action := some x.cfg.seqBreak.action, observed := none }
  obtain ⟨hclass, hctr⟩ := Group.trip_records (ev := ev) hys hm
  have hqueue := Group.trip_queue ev hyf
  obtain ⟨-, -, hexp, -⟩ := y.trip_sameRun ev
  refine ⟨hexp.trans hye, hclass, hctr, fun hn => ?_, fun hn => ?_, fun hrep => ?_⟩
  · exact (hqueue.resolve_right fun hq => hn hq.1).2
  · exact (hqueue.resolve_left fun hq => hq.1 hn).2
  · rw [(Group.trip_active hys).1 hrep]
    rfl

/-- A stream frame in good order that its port admits and an entry of the map matches (R31 to R39). -/
structure State.MatchedFrame (s : State) (p : Port) (bs : List Byte) (i : MapIx) : Prop where
  mapLaw : s.MapLaw
  noReset : s.resetInFlight = false
  check : crcOk bs = true
  tag : natAt16 bs 0 < 0xFF0
  wellFormed : frameMalformed bs = false
  admits : (s.port p).policy.Admits (natAt16 bs 0) (s.map.get i).tag.toNat
  valid : (s.map.get i).valid = true
  port : (s.map.get i).portMask.getLsbD (portCode p) = true

theorem State.group_withMap (s : State) (m : Tab 32 MapEntry) (g : GroupIx) :
    ({ s with map := m } : State).group g = s.group g := rfl

theorem State.port_withMap (s : State) (m : Tab 32 MapEntry) (p : Port) :
    ({ s with map := m } : State).port p = s.port p := by cases p <;> rfl

theorem Role.primary_or_trim (r : Role) : r = .primary ∨ r = .trim := by cases r <;> decide

section Matched

variable {s : State} {p : Port} {bs : List Byte} {i : MapIx}

/-- A matched frame is dispatched by its entry's role, counted received first (R39, R43). -/
theorem State.MatchedFrame.exec_eq (h : s.MatchedFrame p bs i) {t : State}
    (ht : (s.modPort p PortState.countReceived).streamFrame p bs = t) :
    exec (.downstreamFrame p bs) s = .next t ∧ (s.modPort p PortState.countReceived).FrameFate p t := by
  have hrun : (s.modPort p PortState.countReceived).ingress p bs = t :=
    (State.ingress_stream h.check h.wellFormed h.tag).trans ht
  exact ⟨hrun ▸ exec_downstreamFrame p bs h.noReset, hrun ▸ State.ingress_fate _ p bs⟩

theorem State.MatchedFrame.dispatch (h : s.MatchedFrame p bs i) :
    ((s.map.get i).role = .primary → (s.modPort p PortState.countReceived).streamFrame p bs =
        (s.modPort p PortState.countReceived).primaryFrame p i (s.map.get i) bs)
      ∧ ((s.map.get i).role = .trim → (s.modPort p PortState.countReceived).streamFrame p bs =
        (s.modPort p PortState.countReceived).trimFrame p i (s.map.get i) bs) := by
  have hm := State.streamFrame_matched (s := s.modPort p PortState.countReceived) (p := p) (bs := bs) (i := i)
    (by simpa using h.admits) (by simpa using State.lookup_entry h.mapLaw h.valid h.port)
  rwa [State.modPort_map] at hm

/-- What a matched frame comes to: the group, the map and the EXCESS_SAMPLES count that it leaves, and nothing else
moved but FRAMES_RECEIVED. -/
abbrev State.FrameLeaves (s : State) (p : Port) (bs : List Byte) (g : GroupIx) (x : Group) (m : Tab 32 MapEntry)
    (n : Nat) : Prop :=
  ∃ t : State, exec (.downstreamFrame p bs) s = .next t ∧ s.StreamLeaves p g t ∧ (t.port p).ctr.excessSamples = n
    ∧ t.group g = x ∧ t.map = m

/-- EXCESS_SAMPLES after a frame is lane-mapped (R44). -/
abbrev State.excessAfter (s : State) (p : Port) (bs : List Byte) (e : MapEntry) : Nat :=
  if laneCount e.laneMask < natAt8 bs 4 then satAdd (s.port p).ctr.excessSamples 1
  else (s.port p).ctr.excessSamples

/-- A frame dropped at its group moves a counter of the group. -/
theorem State.MatchedFrame.dropped (h : s.MatchedFrame p bs i) {g : GroupIx} {f : Group → Group}
    (ht : (s.modPort p PortState.countReceived).streamFrame p bs =
      (s.modPort p PortState.countReceived).modGroup g f) :
    s.FrameLeaves p bs g (f (s.group g)) s.map (s.port p).ctr.excessSamples := by
  obtain ⟨hx, hfate⟩ := h.exec_eq ht
  obtain ⟨hleaves, hex⟩ := State.StreamLeaves.modGroup s p g hfate
  exact ⟨_, hx, hleaves, hex, by simp, by simp⟩

/-- A PRIMARY frame whose group is not bound to the entry (R43). -/
theorem State.MatchedFrame.unbound (h : s.MatchedFrame p bs i) (hr : (s.map.get i).role = .primary)
    (hd : (s.group (s.map.get i).group).judgePrimary i = .unbound) :
    s.FrameLeaves p bs (s.map.get i).group (s.group (s.map.get i).group).countUnbound s.map
      (s.port p).ctr.excessSamples :=
  h.dropped (by rw [h.dispatch.1 hr, State.primaryFrame, State.group_modPort, hd])

/-- A PRIMARY frame that its group refuses (R43). -/
theorem State.MatchedFrame.refused (h : s.MatchedFrame p bs i) (hr : (s.map.get i).role = .primary)
    (hd : (s.group (s.map.get i).group).judgePrimary i = .refused) :
    s.FrameLeaves p bs (s.map.get i).group (s.group (s.map.get i).group).countRefused s.map
      (s.port p).ctr.excessSamples :=
  h.dropped (by rw [h.dispatch.1 hr, State.primaryFrame, State.group_modPort, hd])

/-- A TRIM frame that is not newer than the entry's last (R49). -/
theorem State.MatchedFrame.staleTrim (h : s.MatchedFrame p bs i) (hr : (s.map.get i).role = .trim)
    (ha : (s.map.get i).acceptsTrim (wordAt bs 2) = false) :
    s.FrameLeaves p bs (s.map.get i).group (s.group (s.map.get i).group).countStale s.map
      (s.port p).ctr.excessSamples :=
  h.dropped (by rw [h.dispatch.2 hr, State.trimFrame, streamSeq, ha]; rfl)

/-- A PRIMARY frame that comes to its group's queue (R43 to R45). -/
theorem State.MatchedFrame.queued (h : s.MatchedFrame p bs i) (hr : (s.map.get i).role = .primary)
    (hd : (s.group (s.map.get i).group).judgePrimary i = .queued) :
    s.FrameLeaves p bs (s.map.get i).group
      ((s.group (s.map.get i).group).driven (wordAt bs 2) (laneSlots (s.map.get i).laneMask (samplesOf bs))) s.map
      (s.excessAfter p bs (s.map.get i)) := by
  have ht : (s.modPort p PortState.countReceived).streamFrame p bs =
      ((s.modPort p PortState.countReceived).noteExcess p (s.map.get i) bs).driveArrival (s.map.get i).group
        (wordAt bs 2) (laneSlots (s.map.get i).laneMask (samplesOf bs)) := by
    rw [h.dispatch.1 hr, State.primaryFrame, State.group_modPort, hd]
    rfl
  obtain ⟨hx, hfate⟩ := h.exec_eq ht
  obtain ⟨hleaves, hex⟩ := State.StreamLeaves.mapped (e := s.map.get i) (bs := bs) hfate
    (fun j hne => by rw [State.driveArrival_group_ne _ _ _ hne]; simp) (fun r => by simp)
  exact ⟨_, hx, hleaves, hex, by rw [State.driveArrival_group]; simp, by simp⟩

/-- A TRIM frame whose trims are taken (R50). -/
theorem State.MatchedFrame.trimmed (h : s.MatchedFrame p bs i) (hr : (s.map.get i).role = .trim)
    (ha : (s.map.get i).acceptsTrim (wordAt bs 2) = true) :
    s.FrameLeaves p bs (s.map.get i).group
      ((s.group (s.map.get i).group).takeTrims (laneSlots (s.map.get i).laneMask (samplesOf bs)))
      (s.map.set i { s.map.get i with lastTrim := some (wordAt bs 2) }) (s.excessAfter p bs (s.map.get i)) := by
  have ht : (s.modPort p PortState.countReceived).streamFrame p bs =
      { ((s.modPort p PortState.countReceived).noteExcess p (s.map.get i) bs).modGroup (s.map.get i).group
          (fun g => g.takeTrims (laneSlots (s.map.get i).laneMask (samplesOf bs))) with
        map := s.map.set i { s.map.get i with lastTrim := some (wordAt bs 2) } } := by
    rw [h.dispatch.2 hr, State.trimFrame, streamSeq, ha, if_pos rfl]
    simp
  obtain ⟨hx, hfate⟩ := h.exec_eq ht
  obtain ⟨hleaves, hex⟩ := State.StreamLeaves.mapped (g := (s.map.get i).group) (e := s.map.get i) (bs := bs) hfate
    (fun j hne => by rw [State.group_withMap, State.group_modGroup_ne _ _ hne]; simp)
    (fun r => by rw [State.port_withMap, State.port_modGroup])
  exact ⟨_, hx, hleaves, hex, by rw [State.group_withMap]; simp, rfl⟩

end Matched

/-- Settles O59: the frame is dispatched by its entry's role, and its group judged by its state and its gap. -/
theorem streamFramesReachTheirQueueOrTrim : Obligations.StreamFramesReachTheirQueueOrTrim := by
  rintro s p bs i e seq n slot g x excess hmap hr hcrc htag h5 rfl h1 h6 hlen hun hta rfl hv hport he rfl rfl rfl rfl
    hslot
  have hslots : laneSlots (s.map.get i).laneMask (samplesOf bs) = Tab.of slot := by
    ext1 l
    rw [laneSlots_get, Tab.get_of, hslot]
    rfl
  have hpos : 1 ≤ (s.map.get i).tag.toNat := ((hmap.1 i).2 hv).1.1
  have hadm : (s.port p).policy.Admits (natAt16 bs 0) (s.map.get i).tag.toNat := by
    refine ⟨fun h0 => ⟨hun h0, fun hd => ?_, by rw [he, if_pos h0]⟩, fun h0 => ⟨hta h0, by rw [he, if_neg h0]⟩⟩
    rw [he, if_pos h0, hd] at hpos
    exact absurd hpos (by decide)
  have hmf : s.MatchedFrame p bs i :=
    ⟨hmap, hr, hcrc, htag, frameMalformed_stream htag h5 h1 h6 hlen, hadm, hv, hport⟩
  rcases (s.map.get i).role.primary_or_trim with hrole | hrole
  · have htrim : (s.map.get i).role ≠ .trim := by simp [hrole]
    rcases (s.group (s.map.get i).group).judgePrimary_cases i with
      ⟨hd, hub⟩ | ⟨hd, ⟨hb, hs⟩, href⟩ | ⟨hd, ⟨hb, hs⟩, hsrc, hf⟩
    · obtain ⟨t, hx, ⟨hg, hframe, ho, hp⟩, hex, hgrp, hm⟩ := hmf.unbound hrole hd
      refine ⟨t, hx, hg, hframe, ho, hp, fun _ => ⟨hm, fun _ => ⟨hex, hgrp⟩, fun hb hs => ?_⟩, (absurd · htrim)⟩
      exact (hub.elim (· hb) hs).elim
    · obtain ⟨t, hx, ⟨hg, hframe, ho, hp⟩, hex, hgrp, hm⟩ := hmf.refused hrole hd
      refine ⟨t, hx, hg, hframe, ho, hp, fun _ => ⟨hm, fun hub => ?_, fun _ _ =>
        ⟨fun _ => ⟨hex, hgrp⟩, fun hsrc hf => ?_⟩⟩, (absurd · htrim)⟩
      · exact (hub.elim (· hb) hs).elim
      · exact (href.elim (fun hg => nomatch hsrc.symm.trans hg) hf).elim
    · obtain ⟨t, hx, ⟨hg, hframe, ho, hp⟩, hex, hgrp, hm⟩ := hmf.queued hrole hd
      refine ⟨t, hx, hg, hframe, ho, hp, fun _ => ⟨hm, fun hub => ?_, fun _ _ =>
        ⟨fun href => ?_, ?_⟩⟩, (absurd · htrim)⟩
      · exact (hub.elim (· hb) hs).elim
      · exact (href.elim (fun hg => nomatch hsrc.symm.trans hg) hf).elim
      · rw [hslots] at hgrp
        rw [hgrp]
        rintro - - entry filler gap rfl rfl hgap
        replace hgap : gap = (s.group (s.map.get i).group).gapTo (wordAt bs 2) := hgap
        rw [hgap]
        refine ⟨hex, fun hst => ?_, fun hj hj' => ?_, fun hj' hn => ?_, fun hbk hj' _ hoff => ?_, ?_⟩
        · rw [Group.driven_stale _ hst]
          rfl
        · rw [Group.driven_joined _ hj hj', Group.joined_eq]
          rfl
        · exact Group.driven_tallies _ hj' hn
        · rw [Group.driven_broken _ hbk hj', groupEvent_off _ _ hoff, Group.tripAll_nil, Group.broken_eq]
          rfl
        · rintro hbk hj' - hon queue ctr rfl rfl
          have hleft := Group.driven_tripped_leaves (Tab.of slot) hbk hj' hon hs hf (Group.broken_eq _ _ _ _).symm
          refine ⟨?_, hleft⟩
          rw [Group.driven_tripped _ hbk hj' hon, Group.broken_eq]
          rfl
  · have hprim : (s.map.get i).role ≠ .primary := by simp [hrole]
    cases ha : (s.map.get i).acceptsTrim (wordAt bs 2) with
    | false =>
      obtain ⟨t, hx, ⟨hg, hframe, ho, hp⟩, hex, hgrp, hm⟩ := hmf.staleTrim hrole ha
      refine ⟨t, hx, hg, hframe, ho, hp, (absurd · hprim), fun _ => ⟨fun _ => ⟨hgrp, hm, hex⟩, fun hnew => ?_⟩⟩
      exact nomatch ha.symm.trans (MapEntry.acceptsTrim_newer hnew)
    | true =>
      obtain ⟨t, hx, ⟨hg, hframe, ho, hp⟩, hex, hgrp, hm⟩ := hmf.trimmed hrole ha
      refine ⟨t, hx, hg, hframe, ho, hp, (absurd · hprim), fun _ =>
        ⟨fun hold => ?_, fun _ => ⟨hm, hex, ?_, fun l => ?_⟩⟩⟩
      · exact nomatch (MapEntry.acceptsTrim_stale hold).symm.trans ha
      · rw [hgrp]
        rfl
      · rw [hgrp, Group.takeTrims_chan, hslots, Tab.get_of]

end Sys2Proof.Machine
end

section
/-! The check code (R31, R106, R183): a frame of at least one byte passes the first test exactly when the two bytes
after it are the code of the bytes before them. -/

namespace Sys2Proof.Machine

/-- The two bytes of a word, put together again, are the word (R182). -/
theorem outWord_eq (w : BitVec 16) :
    outWord w = [w.extractLsb' 8 8, w.extractLsb' 0 8] ∧ w.extractLsb' 8 8 ++ w.extractLsb' 0 8 = w :=
  ⟨rfl, by rw [BitVec.extractLsb'_append_extractLsb'_eq_extractLsb' (by decide), BitVec.extractLsb'_eq_self]⟩

/-- The first test on a frame whose last two bytes are known (R31, R106). -/
theorem crcOk_append {bs : List Byte} (a b : Byte) (h : bs ≠ []) : crcOk (bs ++ [a, b]) = (crc bs == a ++ b) := by
  have hlen : 3 ≤ (bs ++ [a, b]).length := by
    have := List.length_pos_iff.mpr h
    simp only [List.length_append, List.length_cons, List.length_nil]
    omega
  have hend : (bs ++ [a, b]).length - 2 = bs.length := by simp
  have hword : wordAt (bs ++ [a, b]) bs.length = a ++ b := by simp [wordAt, byteAt]
  rw [crcOk, decide_eq_true hlen, Bool.true_and, hend, List.take_left, hword]

theorem crcOk_sealFrame {bs : List Byte} (h : bs ≠ []) : crcOk (sealFrame bs) = true := by
  obtain ⟨hbytes, hword⟩ := outWord_eq (crc bs)
  rw [sealFrame, hbytes, crcOk_append _ _ h, hword, beq_self_eq_true]

/-- Settles O60: the worked values by computing them, the frames by the first test on their last two bytes. -/
theorem checkCodesCloseEveryFrame : Obligations.CheckCodesCloseEveryFrame := by
  refine ⟨by decide +kernel, by decide +kernel, fun _ h => crcOk_sealFrame h, fun bs h => ?_, fun bs a b h hne => ?_⟩
  · rw [crcOk, decide_eq_false (Nat.not_le.mpr h), Bool.false_and]
  · rw [crcOk_append a b h]
    exact beq_eq_false_iff_ne.mpr hne.symm

end Sys2Proof.Machine
end

section
/-! The replay queue (R52, R54, R100): every move of a group keeps its queue within its capacity, and puts entries only
where the group's state, its source and its expected sequence let it hold some. -/

namespace Sys2Proof.Machine

/-- Where a replay queue may hold entries: outside IDLE and FAULTED (R52), under STREAM (R100), and with an expected
sequence (R54). -/
abbrev Group.MayQueue (x : Group) : Prop :=
  x.state ≠ .idle ∧ x.state ≠ .faulted ∧ x.source ≠ .generator ∧ x.expected ≠ none

/-- Both laws of the replay queue: its capacity, and where it may hold entries. -/
abbrev Group.ReplayLaw (x : Group) : Prop := x.queue.length ≤ 64 ∧ (x.queue = [] ∨ x.MayQueue)

theorem Group.replayLaw_iff (x : Group) : x.ReplayLaw ↔ x.QueueLaw ∧ x.SourceLaw := by
  by_cases hq : x.queue = []
  · simp [Group.ReplayLaw, Group.QueueLaw, Group.SourceLaw, hq]
  · simp only [Group.ReplayLaw, Group.QueueLaw, Group.SourceLaw, Group.MayQueue, hq, false_or, imp_false, not_or, ne_eq]
    tauto

/-! ## A queue left, emptied, or one entry shorter -/

theorem Group.ReplayLaw.of_empty {y : Group} (h : y.queue = []) : y.ReplayLaw := ⟨by simp [h], .inl h⟩

theorem Group.ReplayLaw.mayQueue {x : Group} {e : QEntry} {rest : List QEntry} (hx : x.ReplayLaw)
    (h : x.queue = e :: rest) : x.MayQueue := hx.2.resolve_left (by simp [h])

/-- The queue as it was in a state that may hold it, with the source as it was or STREAM. -/
theorem Group.ReplayLaw.of_active {x y : Group} (hx : x.ReplayLaw) (hi : y.state ≠ .idle) (hf : y.state ≠ .faulted)
    (hq : y.queue = x.queue) (he : y.expected = x.expected) (hs : y.source = x.source ∨ y.source = .stream) :
    y.ReplayLaw := by
  refine ⟨hq ▸ hx.1, hx.2.imp hq.trans fun ⟨_, _, hg, hn⟩ => ⟨hi, hf, ?_, he ▸ hn⟩⟩
  rcases hs with hs | hs <;> rw [hs]
  · exact hg
  · exact nofun

/-- The first entry taken. -/
theorem Group.ReplayLaw.tail {x y : Group} {e : QEntry} {rest : List QEntry} (hx : x.ReplayLaw)
    (h : x.queue = e :: rest) (hq : y.queue = rest) (hy : x.MayQueue → y.MayQueue) : y.ReplayLaw := by
  have hlen := hx.1
  rw [h, List.length_cons] at hlen
  exact ⟨by rw [hq]; omega, .inr (hy (hx.mayQueue h))⟩

/-! ## The parts of a group's moves -/

theorem Group.enterIdle_replay (x : Group) : x.enterIdle.ReplayLaw := .of_empty rfl

theorem Group.enterFaulted_replay (x : Group) : x.enterFaulted.ReplayLaw := .of_empty rfl

theorem Group.enterRetryWait_replay (x : Group) (hx : x.ReplayLaw) : x.enterRetryWait.ReplayLaw :=
  hx.of_active (by simp) (by simp) rfl rfl (.inl rfl)

theorem Group.enterParking_replay (x : Group) (hx : x.ReplayLaw) : x.enterParking.ReplayLaw :=
  hx.of_active (by simp) (by simp) rfl rfl (.inl rfl)

theorem Group.enterHeld_replay (x : Group) (hx : x.ReplayLaw) : x.enterHeld.ReplayLaw :=
  hx.of_active (by simp) (by simp) rfl rfl (.inl rfl)

theorem Group.take_replay {x : Group} (hx : x.ReplayLaw) : x.take.1.ReplayLaw := by
  rcases hq : x.queue with _ | ⟨e, rest⟩
  · rw [Group.take_nil hq]; exact hx
  · rw [Group.take_cons hq]; exact hx.tail hq rfl id

theorem Group.skip_replay {x : Group} (hx : x.ReplayLaw) : x.skip.ReplayLaw := by
  rcases hq : x.queue with _ | ⟨e, rest⟩
  · rw [Group.skip_nil hq]; exact hx
  · rw [Group.skip_cons hq]; exact hx.tail hq rfl id

theorem Group.Completion.keeps_replay {x y : Group} {r : GenRun} {w i : Bool} (h : x.Completion r w i y)
    (hx : x.ReplayLaw) : y.ReplayLaw := by
  cases h with
  | stay | ticked => exact hx
  | burst | ended | risen => exact hx.of_active (by simp) (by simp) rfl rfl (.inl rfl)
  | faded => exact .of_empty rfl
  | parked =>
    exact Group.enterTarget_keeps x.enterIdle_replay (x.enterRetryWait_replay hx) x.enterFaulted_replay hx
  | resumed =>
    exact Group.resumeRun_keeps (law := Group.ReplayLaw) (hx.of_active (by simp) (by simp) rfl rfl (.inl rfl))
      (hx.of_active (by simp) (by simp) rfl rfl (.inl rfl))

/-- An arrival judged for the queue finds a group that may hold entries but for the expected sequence, which it sets
unless it is stale, and puts in the queue no more than there is room for (R52, R54). -/
theorem Group.arrive_replay {x : Group} {i : MapIx} (seq : Seq) (slots : Tab 6 (Option Du))
    (h : x.judgePrimary i = .queued) (hx : x.ReplayLaw) : (x.arrive seq slots).1.ReplayLaw := by
  have hlen := hx.1
  rcases x.judgePrimary_cases i with ⟨hj, -⟩ | ⟨hj, -, -⟩ | ⟨-, ⟨-, hi⟩, hs, hf⟩
  · cases hj.symm.trans h
  · cases hj.symm.trans h
  have hg : x.source ≠ .generator := by simp [hs]
  by_cases h' : x.gapTo seq ≤ 32767
  · by_cases hgap : x.gapTo seq ≤ x.cfg.gapFill
    · rw [Group.arrive_joined slots hgap h', Group.joined_eq]
      refine ⟨?_, .inr ⟨hi, hf, hg, nofun⟩⟩
      dsimp only
      split <;> simp <;> omega
    · rw [Group.arrive_broken slots (by omega) h', Group.broken_eq]
      refine ⟨?_, .inr ⟨hi, hf, hg, nofun⟩⟩
      dsimp only
      split <;> simp <;> omega
  · rw [Group.arrive_stale slots (by omega)]
    exact hx

/-! ## The law -/

/-- Every move keeps the laws of the replay queue. -/
theorem Group.Move.keeps_replay {x y : Group} (h : x.Move y) (hx : x.ReplayLaw) : y.ReplayLaw := by
  cases h with
  | fresh => exact .of_empty rfl
  | obtain => exact Group.obtain_keeps (Group.take_replay hx) hx (Group.skip_replay hx) hx
  | countSince => rcases x.countSince_cases with ⟨h, -⟩ | ⟨h, -⟩ <;> rw [h] <;> exact hx
  | complete r w i => exact (x.complete_completion r w i).keeps_replay hx
  | decimate => rw [Group.decimate_frame]; exact hx
  | trip ev hev =>
    exact Group.trip_keeps (law := Group.ReplayLaw) (fun _ _ _ h => h) (fun _ _ _ h => h) (fun _ _ _ _ h => h)
      (fun z _ => z.enterRetryWait_replay) (fun z _ _ => z.enterFaulted_replay) (fun z _ => z.enterParking_replay)
      (fun z _ => z.enterHeld_replay) ev hx
  | interlockTrip =>
    exact Group.interlockTrip_keeps (law := Group.ReplayLaw) (fun _ _ _ h => h) (fun _ _ _ _ h => h)
      (fun z _ => z.enterFaulted_replay) hx
  | arrive i seq slots h => exact Group.arrive_replay seq slots h hx
  | disarm hs => exact x.enterIdle_replay
  | start hs => exact hx.of_active (by simp) (by simp) rfl rfl (.inr rfl)
  | stop =>
    rcases x.stopRun_cases with ⟨-, h⟩ | ⟨-, h⟩ <;> rw [h]
    · exact hx.of_active (by simp) (by simp) rfl rfl (.inl rfl)
    · exact hx
  | abort y h =>
    rcases Group.abortRun_cases h with ⟨-, rfl⟩ | ⟨-, rfl⟩ | ⟨-, rfl⟩ | ⟨-, rfl⟩
    · exact x.enterParking_replay hx
    · exact x.enterIdle_replay
    · exact .of_empty rfl
    · exact hx
  | genStart hs => exact .of_empty rfl
  | clearFaults w i =>
    exact Group.clearFaults_keeps (law := Group.ReplayLaw) w i (fun _ h => h) (fun z _ => z.enterIdle_replay)
      enterParking_replay hx
  | _ => exact hx

/-- Settles O5: every move keeps the laws of the replay queue, and ARM empties it. -/
theorem replayQueueLawsAreKept : Obligations.ReplayQueueLawsAreKept := by
  simp only [Obligations.ReplayQueueLawsAreKept, ← Group.replayLaw_iff]
  exact keptByEveryStep_of_event (fun _ _ h => h) fun _ _ he hs =>
    he.keepsEachGroup (fun _ _ hm => hm.keeps_replay) (fun _ _ _ _ => .of_empty rfl) hs

end Sys2Proof.Machine
end

section
/-! The run tallies (R5, R67): every move that puts entries in the queue, or takes some out of it, counts them in one
tally. While the enqueued tally stands below its maximum the others do too, so no count saturates. -/

namespace Sys2Proof.Machine

/-- The balance of the tallies against an occupancy (R67). -/
abbrev Tallies.Balance (t : Tallies) (occupancy : Nat) : Prop :=
  t.enqueued < 4294967295 → t.enqueued = t.played + t.skipped + t.flushed + occupancy

/-! ## The counts -/

theorem Tallies.Balance.enqueue {t : Tallies} {n : Nat} (k : Nat) (h : t.Balance n) :
    ({ t with enqueued := satAdd t.enqueued k } : Tallies).Balance (n + k) := by
  intro hlt
  dsimp only [satAdd, Config.counterMax] at hlt ⊢
  have := h (by omega)
  omega

theorem Tallies.Balance.play {t : Tallies} {n : Nat} (h : t.Balance (n + 1)) :
    ({ t with played := satAdd t.played 1 } : Tallies).Balance n := by
  intro hlt
  have := h hlt
  dsimp only [satAdd, Config.counterMax] at hlt ⊢
  omega

theorem Tallies.Balance.skip {t : Tallies} {n : Nat} (h : t.Balance (n + 1)) :
    ({ t with skipped := satAdd t.skipped 1 } : Tallies).Balance n := by
  intro hlt
  have := h hlt
  dsimp only [satAdd, Config.counterMax] at hlt ⊢
  omega

theorem Tallies.Balance.flush {t : Tallies} {n : Nat} (h : t.Balance n) :
    ({ t with flushed := satAdd t.flushed n } : Tallies).Balance 0 := by
  intro hlt
  have := h hlt
  dsimp only [satAdd, Config.counterMax] at hlt ⊢
  omega

/-! ## The parts of a group's moves -/

theorem Group.insert_tally (x : Group) (es : List QEntry) (hx : x.TallyLaw) : (x.insert es).TallyLaw := by
  have h := Tallies.Balance.enqueue es.length hx
  rwa [← List.length_append] at h

theorem Group.flush_tally (x : Group) (hx : x.TallyLaw) : x.flush.TallyLaw := Tallies.Balance.flush hx

theorem Group.take_tally {x : Group} (hx : x.TallyLaw) : x.take.1.TallyLaw := by
  rcases hq : x.queue with _ | ⟨e, rest⟩
  · rw [Group.take_nil hq]; exact hx
  · rw [Group.TallyLaw, hq] at hx
    rw [Group.take_cons hq]; exact Tallies.Balance.play hx

theorem Group.skip_tally {x : Group} (hx : x.TallyLaw) : x.skip.TallyLaw := by
  rcases hq : x.queue with _ | ⟨e, rest⟩
  · rw [Group.skip_nil hq]; exact hx
  · rw [Group.TallyLaw, hq] at hx
    rw [Group.skip_cons hq]; exact Tallies.Balance.skip hx

theorem Group.Completion.keeps_tally {x y : Group} {r : GenRun} {w i : Bool} (h : x.Completion r w i y)
    (hx : x.TallyLaw) : y.TallyLaw := by
  cases h with
  | faded => exact x.flush_tally hx
  | parked =>
    exact Group.enterTarget_keeps (law := Group.TallyLaw) (x.flush_tally hx) hx (x.flush_tally hx) hx
  | resumed => exact Group.resumeRun_keeps (law := Group.TallyLaw) hx hx
  | _ => exact hx

/-! ## The law -/

/-- Every move keeps the balance of the tallies. -/
theorem Group.Move.keeps_tally {x y : Group} (h : x.Move y) (hx : x.TallyLaw) : y.TallyLaw := by
  cases h with
  | fresh => exact fun _ => rfl
  | obtain => exact Group.obtain_keeps (Group.take_tally hx) hx (Group.skip_tally hx) hx
  | countSince => rw [Group.countSince_frame]; exact hx
  | complete r w i => exact (x.complete_completion r w i).keeps_tally hx
  | decimate => rw [Group.decimate_frame]; exact hx
  | trip ev hev =>
    exact Group.trip_keeps (law := Group.TallyLaw) (fun _ _ _ h => h) (fun _ _ _ h => h) (fun _ _ _ _ h => h)
      (fun _ _ h => h) (fun z _ => z.flush_tally) (fun _ _ h => h) (fun _ _ h => h) ev hx
  | interlockTrip =>
    exact Group.interlockTrip_keeps (law := Group.TallyLaw) (fun _ _ _ h => h) (fun _ _ _ _ h => h) flush_tally hx
  | arrive i seq slots h =>
    exact Group.arrive_keeps (law := Group.TallyLaw) insert_tally (fun _ h => h) (fun _ _ h => h) (fun _ _ h => h)
      (fun _ h => h) (fun _ h => h) (fun _ _ h => h) seq slots hx
  | disarm hs => exact x.flush_tally hx
  | stop => rcases x.stopRun_cases with ⟨-, h⟩ | ⟨-, h⟩ <;> rw [h] <;> exact hx
  | abort y h =>
    rcases Group.abortRun_cases h with ⟨-, rfl⟩ | ⟨-, rfl⟩ | ⟨-, rfl⟩ | ⟨-, rfl⟩
    · exact hx
    · exact x.flush_tally hx
    · exact x.flush_tally hx
    · exact hx
  | genStart hs => exact x.flush_tally hx
  | clearFaults w i =>
    exact Group.clearFaults_keeps (law := Group.TallyLaw) w i (fun _ h => h) flush_tally (fun _ h => h) hx
  | _ => exact hx

/-- Settles O8: every move keeps the balance, and ARM starts the tallies again with an empty queue. -/
theorem tallyBalanceIsKept : Obligations.TallyBalanceIsKept :=
  keptByEveryStep_of_event (fun _ _ h => h) fun _ _ he hs =>
    he.keepsEachGroup (fun _ _ hm => hm.keeps_tally) (fun _ _ _ _ _ => rfl) hs

end Sys2Proof.Machine
end

section
/-! The rows that name what comes about inside a playout (R64, R85, R97, R127, R149, R179, R180; log entry 2): when each
comes about, read off the group that the playout finds, and what it leaves of that group and of its record's port. -/

namespace Sys2Proof.Machine

/-! ## A row and its playout -/

/-- A row whose event comes about exactly where `c` holds is the step there, with what the step leaves, and nothing
elsewhere. -/
theorem whenArises_row {b : Bool} {c a : Prop} {t s : State} (hb : b = true ↔ c) (ha : c → a) :
    (c → whenArises b t s = .next t ∧ a) ∧ (¬ c → whenArises b t s = .next s) := by
  rcases whenArises_cases b t s with ⟨he, h⟩ | ⟨he, h⟩
  · exact ⟨fun hc => ⟨he, ha hc⟩, fun hn => absurd (hb.mp h) hn⟩
  · exact ⟨fun hc => (nomatch h.symm.trans (hb.mpr hc)), fun _ => he⟩

/-! ## When each event comes about -/

/-- R64. -/
theorem Group.starveRaised_iff (x : Group) : x.starveRaised = true ↔ x.state.live = true ∧ x.source = .stream
    ∧ x.queue = [] ∧ x.streak < 65535 ∧ x.streak + 1 = x.cfg.starveLimit := by
  have hst : x.advance.state = x.state := rfl
  have hso : x.advance.source = x.source := rfl
  have hq : x.advance.queue = x.queue := rfl
  rw [Group.starveRaised]
  rcases x.advance.obtain_cases with ⟨hl, hs, h⟩ | ⟨-, hs, h⟩ | ⟨hs, h⟩ | ⟨hs, h⟩ <;> rw [h]
  · rw [hst] at hl
    rw [hso] at hs
    rcases hx : x.queue with _ | ⟨e, rest⟩
    · rw [Group.take_nil (hq.trans hx)]
      simp [hl, hs, Group.advance, Config.countMax]
    · rw [Group.take_cons (hq.trans hx)]
      simp
  · rw [hso] at hs
    simp [hs]
  · have hl : x.state.live = false := by revert hs; rw [hst]; cases x.state <;> simp [GState.live]
    simp [hl]
  · have hl : x.state.live = false := by revert hs; rw [hst]; cases x.state <;> simp [GState.live]
    simp [hl]

theorem mem_lanes (l : LaneIx) : l ∈ lanes := List.mem_finRange l

/-- R85: a live playout that leaves either clamp's flag set counts one more on the lane's persistence. -/
theorem Group.clampLanes_iff (x : Group) (w i : Bool) (l : LaneIx) : x.stepped.clampLanes.contains l = true ↔
    x.state.live = true ∧ x.cfg.clampLimit ≠ 0 ∧ (x.chans.get l).persist < 65535
      ∧ (((x.played w i).chans.get l).slewFlag = true ∨ ((x.played w i).chans.get l).rangeFlag = true)
      ∧ (x.chans.get l).persist + 1 = x.cfg.clampLimit := by
  obtain ⟨-, -, -, hsf, hrf, -, -⟩ := (x.played_sameOutputs w i).chans l
  rw [hsf, hrf, ← Bool.or_eq_true, ← Channel.clamped]
  cases hl : x.state.live with
  | false => simp [Group.clampLanes, hl]
  | true =>
    have hold : (x.stepped.chans.get l).persist = (x.chans.get l).persist := by
      rw [Group.stepped_chans, Group.sourced_chan]
    have hnew : (x.formed.chans.get l).persist =
        if (x.formed.chans.get l).clamped then countUp (x.chans.get l).persist else 0 := by
      rw [Group.formed_live hl, ← hold]
      rfl
    simp only [Group.clampLanes, Group.stepped_state, hl, if_true, List.contains_iff_mem, List.mem_filter, mem_lanes,
      true_and, ← Group.formed_chans, persistReached, Group.stepped_cfg, hold, hnew, Config.countMax,
      Bool.and_eq_true, decide_eq_true_eq]
    cases (x.formed.chans.get l).clamped with
    | false => simp
    | true =>
      simp only [countUp, Config.countMax, if_true, true_and, and_true]
      omega

/-- R127. -/
theorem Group.fbLossRaised_iff (x : Group) : x.formed.fbLossRaised = true ↔
    x.state ≠ .idle ∧ x.state ≠ .faulted ∧ x.sinceFb = x.cfg.fbLimit ∧ x.sinceFb < 65535 := by
  have hst : x.formed.state = x.state := x.sourced_state
  have hfb : x.formed.sinceFb = x.sinceFb := x.sourced_sinceFb
  have hc : x.formed.cfg = x.cfg := x.sourced_cfg
  have hw : x.state.watched = true ↔ x.state ≠ .idle ∧ x.state ≠ .faulted := by
    cases x.state <;> simp [GState.watched]
  simp only [Group.fbLossRaised, hst, hfb, hc, hw, Config.countMax, Bool.and_eq_true, decide_eq_true_eq, and_assoc]

/-- The generator after a playout of FADE_IN or RUN (R93, R97). -/
theorem Group.sourced_genRun {x : Group} (h : x.state = .fadeIn ∨ x.state = .run) (hs : x.source = .generator) :
    x.sourced.genRun = genAdvance x.gen true x.genRun := by
  have hlive : x.state.live = true := by rcases h with h | h <;> rw [h] <;> rfl
  have hrun : x.advance.state.running = true := by rcases h with h | h <;> simp [Group.advance, h, GState.running]
  rw [x.sourced_generate hlive hs, Group.generate, hrun]
  rfl

/-- R97. -/
theorem Group.burstCompletes_iff (x : Group) : x.burstCompletes = true ↔ (x.state = .fadeIn ∨ x.state = .run)
    ∧ x.source = .generator ∧ x.genRun.ended = false ∧ x.genRun.count < 16777215
    ∧ x.gen.count = some (x.genRun.count + 1) := by
  have hstate : x.state.running = true ↔ x.state = .fadeIn ∨ x.state = .run := by
    cases x.state <;> simp [GState.running]
  rw [Group.burstCompletes, Bool.and_eq_true, Bool.and_eq_true, decide_eq_true_eq, hstate, and_assoc]
  refine and_congr_right fun hr => and_congr_right fun hs => ?_
  rw [Group.sourced_genRun hr hs, burstDone_genAdvance]

/-- R149. -/
theorem Group.retryExpires_iff (x : Group) : x.retryExpires = true ↔ x.state = .retryWait ∧ x.retryTimer ≤ 1 := by
  simp only [Group.retryExpires, Bool.and_eq_true, decide_eq_true_eq]
  exact and_congr_right fun _ => by omega

theorem Group.Completion.telemCount {x y : Group} {r : GenRun} {w i : Bool} (h : x.Completion r w i y) :
    y.telemCount = x.telemCount := by
  cases h with
  | parked => exact Group.enterTarget_keeps (law := fun t => t.telemCount = x.telemCount) rfl rfl rfl rfl
  | resumed => exact Group.resumeRun_keeps (law := fun t => t.telemCount = x.telemCount) rfl rfl
  | _ => rfl

theorem Group.completed_telemCount (x : Group) (w i : Bool) : (x.completed w i).telemCount = x.telemCount := by
  rw [(x.completed_completion w i).telemCount, Group.counted_frame]

theorem Group.completed_cfg (x : Group) (w i : Bool) : (x.completed w i).cfg = x.cfg :=
  (x.completed_completion w i).sameOutputs.cfg.trans x.counted_cfg

/-- R179. -/
theorem Group.telemetryDue_iff (x : Group) (w i : Bool) :
    x.telemetryDue w i = true ↔ x.cfg.telemK ≠ 0 ∧ x.telemCount + 1 = x.cfg.telemK := by
  rw [Group.telemetryDue, ← x.completed_telemCount w i, ← x.completed_cfg w i]
  rcases (x.completed w i).decimate_cases with ⟨h0, h⟩ | ⟨h0, h1, h⟩ | ⟨h0, h1, h⟩ <;> rw [h]
  · simp [h0]
  · simp [h0, h1]
  · simp [h1]

/-! ## What the trips of a playout latch -/

/-- What the trip of one event establishes outside IDLE, and every trip keeps, holds after a list with the event. -/
theorem Group.tripAll_mem {law : Group → Prop} {ev : MonEvent} (hev : ∀ y : Group, y.state ≠ .idle → law (y.trip ev))
    (hk : ∀ y e, law y → law (y.trip e)) {x : Group} {evs : List MonEvent} (h : x.state ≠ .idle) (hm : ev ∈ evs) :
    law (x.tripAll evs) := by
  induction evs generalizing x with
  | nil => cases hm
  | cons e rest ih =>
    rcases List.mem_cons.mp hm with rfl | hm
    · exact Group.tripAll_keeps hk rest (hev x h)
    · exact ih (Group.trip_ne_idle e h) hm

/-- A kind latched in class ACTION stays so (R140). -/
theorem Group.trip_keeps_action {x : Group} {k : Kind} (ev : MonEvent) (h : x.classOf k = some .action) :
    (x.trip ev).classOf k = some .action := by
  have latch (y : Group) (j : Kind) (c : FaultClass) (hy : y.classOf k = some .action) :
      (y.latch j c).classOf k = some .action := by
    rw [Group.classOf_latch]
    split
    · next hj => subst hj; rw [hy]; cases c <;> rfl
    · exact hy
  exact Group.trip_keeps (law := fun t => t.classOf k = some .action) latch (fun y e _ hy => latch y e.kind .action hy)
    (fun _ _ _ _ h => h) (fun _ _ h => h) (fun _ _ h => h) (fun _ _ h => h) (fun _ _ h => h) ev h

/-- An event of mode LATCH or RETRY leaves its kind latched in class ACTION (R140, R143). -/
theorem Group.trip_action {x : Group} {ev : MonEvent} (h : x.state ≠ .idle)
    (hm : ev.mode = .latch ∨ ev.mode = .retry) : (x.trip ev).classOf ev.kind = some .action := by
  have hl := (x.actionTrip_records ev).1
  rw [(Group.trip_active h).2 hm, Group.classOf, hl]
  change (x.latch ev.kind .action).classOf ev.kind = some .action
  rw [Group.classOf_latch, if_pos rfl, joinClass_action]

/-- What a group monitor's event leaves latched by its treatment's mode, where the trips do not find the group in
IDLE. -/
theorem Group.played_latches {x : Group} {w i : Bool} {k : Kind} {l : Option LaneIx} {tr : Treatment}
    (h : (x.settled w i).state ≠ .idle) (hm : groupEvent k l tr ⊆ x.playoutEvents) :
    (tr.mode = .latch ∨ tr.mode = .retry → (x.played w i).classOf k = some .action)
      ∧ (tr.mode = .report → (x.played w i).classOf k ≠ none) := by
  have mem (hon : tr.mode ≠ .off) := hm (groupEvent_on k l hon ▸ List.mem_singleton_self _)
  refine ⟨fun hact => ?_, fun hr => Group.tripAll_report h (mem (by simp [hr])) hr⟩
  exact Group.tripAll_mem (law := fun t => t.classOf k = some .action) (fun y hy => Group.trip_action hy hact)
    (fun y e => Group.trip_keeps_action e) h (mem (by rcases hact with h | h <;> simp [h]))

theorem Group.settled_live_ne_idle {x : Group} (w i : Bool) (h : x.state.live = true) :
    (x.settled w i).state ≠ .idle := by
  rw [Group.settled_state]
  exact (x.completed_completion w i).ne_idle (by simpa using h)

theorem Group.playoutEvents_starve {x : Group} (h : x.starveRaised = true) :
    groupEvent .starve none x.cfg.starve ⊆ x.playoutEvents := by
  intro ev hev
  simp [Group.playoutEvents, h, hev]

theorem Group.playoutEvents_clampPersist {x : Group} {l : LaneIx} (h : x.stepped.clampLanes.contains l = true) :
    groupEvent .clampPersist (some l) x.cfg.clampPersist ⊆ x.playoutEvents := by
  intro ev hev
  simp only [Group.playoutEvents, List.mem_append, List.mem_flatMap]
  exact .inl (.inl (.inr ⟨l, by simpa using h, hev⟩))

theorem Group.playoutEvents_fbLoss {x : Group} (h : x.formed.fbLossRaised = true) :
    groupEvent .fbLoss none x.cfg.fbLoss ⊆ x.playoutEvents := by
  intro ev hev
  simp [Group.playoutEvents, h, hev]

/-! ## What each event leaves of the group -/

/-- What the decimation and the trips leave of the completions: the generator and the playouts since feedback. -/
theorem Group.played_completed (x : Group) (w i : Bool) : (x.played w i).genDone = (x.completed w i).genDone
    ∧ (x.played w i).genRun = (x.completed w i).genRun ∧ (x.played w i).sinceFb = (x.completed w i).sinceFb := by
  obtain ⟨-, -, -, -, -, -, -, hfb, -, hdone, -, -, hrun, -⟩ := x.played_sameRun w i
  rw [hfb, hdone, hrun, Group.settled_frame]
  exact ⟨rfl, rfl, rfl⟩

/-- FB_LOSS: the count passes its limit, and the event is latched outside IDLE (R127). -/
theorem Group.played_fbLoss {x : Group} (w i : Bool) (h : x.formed.fbLossRaised = true) :
    (x.played w i).sinceFb = x.cfg.fbLimit + 1 ∧ ((x.played w i).state ≠ .idle →
      (x.cfg.fbLoss.mode = .latch ∨ x.cfg.fbLoss.mode = .retry → (x.played w i).classOf .fbLoss = some .action)
        ∧ (x.cfg.fbLoss.mode = .report → (x.played w i).classOf .fbLoss ≠ none)) := by
  obtain ⟨hi, hf, hlim, hmax⟩ := x.fbLossRaised_iff.mp h
  constructor
  · obtain ⟨-, -, hsince⟩ := x.played_completed w i
    rw [hsince, (x.completed_completion w i).sinceFb, Group.counted_sinceFb, if_neg (by simp [hi, hf])]
    omega
  · intro hne
    refine Group.played_latches (fun hs => hne ?_) (Group.playoutEvents_fbLoss h)
    rw [Group.played, Group.tripAll_idle hs, hs]

/-- BURST_COMPLETION: the done flag, the ended pattern with its count, and FADE_OUT where no monitor speaks (R97). -/
theorem Group.played_burst {x : Group} (w i : Bool) (h : x.burstCompletes = true) :
    (x.played w i).genDone = true ∧ (x.played w i).genRun.ended = true
      ∧ (x.played w i).genRun.count = x.genRun.count + 1
      ∧ (x.playoutEvents = [] → (x.played w i).state = .fadeOut) := by
  obtain ⟨hr, hs, he, hlt, hc⟩ := x.burstCompletes_iff.mp h
  obtain ⟨hdone, hrun, -⟩ := x.played_completed w i
  have hburst := x.completed_burst w i hr hs he hlt hc
  have hcount : x.sourced.genRun.count = x.genRun.count + 1 := by
    rw [Group.sourced_genRun hr hs]
    simp only [genAdvance, he, Bool.not_false, Bool.and_self, if_true, Config.genCountMax]
    omega
  rw [hdone, hrun, hburst]
  refine ⟨rfl, rfl, ?_, fun hq => ?_⟩
  · exact (congrArg GenRun.count x.counted_genRun).trans hcount
  · rw [Group.played_quiet w i hq, Group.settled_state, hburst]
    rfl

/-- RETRY_TIMER_EXPIRY: the timer starts again, or the run resumes, where no monitor speaks (R149, R150). -/
theorem Group.played_expiry {x : Group} (w i : Bool) (h : x.state = .retryWait) (ht : x.retryTimer = 1)
    (hq : x.playoutEvents = []) :
    (x.played w i).state = .retryWait ∧ (x.played w i).retryTimer = x.cfg.retryTime
      ∨ (x.played w i).state ∈ [GState.armed, .fadeIn] ∧ (x.played w i).target = none := by
  rw [Group.played_quiet w i hq, Group.settled_frame, x.completed_expired w i h ht, Group.judgeExpiry]
  dsimp only
  split
  · exact .inl ⟨x.counted_state.trans h, congrArg GroupConfig.retryTime x.counted_cfg⟩
  · obtain ⟨hs, -, -, -, htarget, -⟩ := ({ x.counted with retryTimer := 0 } : Group).resumeRun_leaves
    refine .inr ⟨?_, htarget⟩
    rw [hs]
    split <;> simp

/-! ## The telemetry record (R179, R180, R186) -/

/-- The decimation counter starts again where a record is due (R179). -/
theorem Group.played_telemCount {x : Group} (w i : Bool) (h : x.telemetryDue w i = true) :
    (x.played w i).telemCount = 0 := by
  obtain ⟨-, -, -, -, -, -, -, -, htel, -⟩ := x.played_sameRun w i
  rw [htel, Group.settled]
  rw [Group.telemetryDue] at h
  rcases (x.completed w i).decimate_cases with ⟨-, hd⟩ | ⟨-, -, hd⟩ | ⟨-, -, hd⟩ <;> rw [hd] at h ⊢
  · cases h
  · cases h

/-- What the record reports of the group as the playout found it, and of its outputs as the playout leaves them. -/
theorem Group.settled_reports (x : Group) (w i : Bool) : (x.settled w i).outSeq = x.outSeq + 1
    ∧ (x.settled w i).level = x.level ∧ (x.settled w i).cfg = x.cfg
    ∧ ∀ l : LaneIx, ((x.settled w i).chans.get l).yPrev = ((x.played w i).chans.get l).yPrev := by
  have ho := x.played_sameOutputs w i
  obtain ⟨-, -, -, hseq, hlevel, -, -, -, -, -, hcfg, -, -, -, -, -, -, hch⟩ := x.played_sameRun w i
  refine ⟨?_, ?_, ?_, fun l => ?_⟩
  · rw [← hseq, ho.outSeq]; exact x.sourced_outSeq
  · rw [← hlevel, ho.level]; exact x.sourced_level
  · rw [← hcfg, ho.cfg]; exact x.sourced_cfg
  · obtain ⟨-, hy, -⟩ := hch l
    exact hy.symm

/-- The record's frame, byte for byte (R185, R186). -/
theorem Group.telemetryFrame_settled (x : Group) (w i : Bool) (straps : Straps) (g : GroupIx) :
    telemetryFrame straps g (x.settled w i) =
      { tag := 0xFFE, kind := .telemetry, unit := straps.unitId, origin := .a, ident := BitVec.ofNat 8 g.val,
        status := BitVec.ofNat 8 (x.settled w i).state.code,
        payload := outWord (x.outSeq + 1) ++ out16 (x.settled w i).env ++ out16 (x.settled w i).att ++ out16 x.level
          ++ [BitVec.ofNat 8 (x.settled w i).queue.length, BitVec.ofNat 8 (x.settled w i).retryCount]
          ++ outWord (x.settled w i).latchedSet
          ++ lanes.flatMap fun l => outWord ((x.played w i).chans.get l).yPrev } := by
  obtain ⟨hseq, hlevel, -, hy⟩ := x.settled_reports w i
  simp only [← hy, ← hseq, ← hlevel]
  rfl

/-- A busy transmitter leaves the record in its slot, and a replaced one is counted (R180). -/
theorem PortState.placeRecord_busy {p : PortState} (g : GroupIx) (f : UpFrame) (h : p.sending ≠ none) :
    (p.placeRecord g f).slots.get g = some f ∧ (p.placeRecord g f).ctr.telemetryReplaced =
      if p.slots.get g = none then p.ctr.telemetryReplaced else min (p.ctr.telemetryReplaced + 1) 4294967295 := by
  constructor
  · obtain ⟨u, hu⟩ := Option.ne_none_iff_exists'.mp h
    rw [PortState.placeRecord, PortState.choose_busy (f := u)]
    · simp
    · split <;> exact hu
  · rw [PortState.placeRecord_frame]
    cases p.slots.get g <;> rfl

/-- The rotation finds the one occupied slot (R181). -/
theorem PortState.nextSlot_only {p : PortState} {g : GroupIx} {f : UpFrame} (h : p.slots.get g = some f)
    (ho : ∀ j : GroupIx, j ≠ g → p.slots.get j = none) : p.nextSlot = some (g, f) := by
  have hmem : ∀ n j : GroupIx, j ∈ [n, n + 1, n + 2, n + 3] := by decide
  rcases hn : p.nextSlot with _ | r
  · have hg := List.findSome?_eq_none_iff.mp hn g (hmem _ g)
    rw [h] at hg
    cases hg
  · obtain ⟨j, -, hj⟩ := List.exists_of_findSome?_eq_some hn
    obtain rfl : j = g := by
      by_contra hne
      rw [ho j hne] at hj
      cases hj
    rw [h] at hj
    exact hj.symm

/-- A free transmitter that had nothing to send takes the record at once (R181). -/
theorem PortState.placeRecord_free {p : PortState} (g : GroupIx) (f : UpFrame) (h : p.sending = none)
    (hl : p.SendLaw) : (p.placeRecord g f).sending = some { frame := f, source := .detached, landing := none }
      ∧ (p.placeRecord g f).slots.get g = none := by
  obtain ⟨hr, he, hs⟩ := hl.1 h
  have hp : p.placeRecord g f = PortState.choose { p with slots := p.slots.set g (some f) } := by
    simp [PortState.placeRecord, hs]
  have hnext : PortState.nextSlot { p with slots := p.slots.set g (some f) } = some (g, f) :=
    PortState.nextSlot_only (by simp) fun j hj => by simp [Tab.get_set_ne _ _ hj.symm, hs]
  rw [hp, PortState.choose_slot (p := { p with slots := p.slots.set g (some f) }) h hr he hnext]
  exact ⟨rfl, Tab.get_set_self _ _ _⟩

/-! ## The statement -/

/-- Settles O52: each row is the playout where its event comes about, with what the event leaves. -/
theorem playoutEventRows : Obligations.PlayoutEventRows := by
  rintro s g x rfl
  have ht : (s.playout g).group g = (s.group g).played s.wdExpired s.interlockOpen := State.playout_group s g
  have hport : (s.settledGroup g).cfg.telemPort = (s.group g).cfg.telemPort :=
    let ⟨_, _, hcfg, _⟩ := (s.group g).settled_reports s.wdExpired s.interlockOpen
    congrArg GroupConfig.telemPort hcfg
  refine ⟨s.playout g, exec_playout s g, ?_⟩
  simp only [ht]
  refine ⟨?_, fun l => ?_, ?_, ?_, ⟨?_, fun h => ?_⟩, ?_⟩
  · refine whenArises_row (s.group g).starveRaised_iff fun hc => ?_
    exact Group.played_latches (Group.settled_live_ne_idle _ _ hc.1)
      (Group.playoutEvents_starve ((s.group g).starveRaised_iff.mpr hc))
  · have hiff := (s.group g).clampLanes_iff s.wdExpired s.interlockOpen l
    refine whenArises_row hiff fun hc => ?_
    exact Group.played_latches (Group.settled_live_ne_idle _ _ hc.1)
      (Group.playoutEvents_clampPersist (hiff.mpr hc))
  · exact whenArises_row (s.group g).fbLossRaised_iff fun hc =>
      Group.played_fbLoss _ _ ((s.group g).fbLossRaised_iff.mpr hc)
  · exact whenArises_row (s.group g).burstCompletes_iff fun hc =>
      Group.played_burst _ _ ((s.group g).burstCompletes_iff.mpr hc)
  · rintro ⟨h, h1⟩
    exact (whenArises_row (s.group g).retryExpires_iff fun _ => Group.played_expiry _ _ h h1).1 ⟨h, h1.le⟩
  · refine (whenArises_row (a := True) (s.group g).retryExpires_iff fun _ => trivial).2 ?_
    rintro ⟨hs, h1⟩
    rcases h with h | h
    · exact h hs
    · omega
  · have hiff := (s.group g).telemetryDue_iff s.wdExpired s.interlockOpen
    refine whenArises_row hiff fun hc => ?_
    have hdue := hiff.mpr hc
    have hp := State.playout_port_due s g hdue
    rw [hport] at hp
    refine ⟨Group.played_telemCount _ _ hdue, telemetryFrame s.straps g (s.settledGroup g), s.settledGroup g, rfl,
      Group.telemetryFrame_settled _ _ _ _ _, fun hb => ?_, fun hf hl => ?_⟩ <;> rw [hp]
    · exact PortState.placeRecord_busy g _ hb
    · exact PortState.placeRecord_free g _ hf hl

end Sys2Proof.Machine
end

section
/-! The output law (R70, R80, R83): every move keeps each park value and each last output within its channel's range,
and in HELD each frozen source equal to the last output. -/

namespace Sys2Proof.Machine

/-! ## A channel -/

/-- The output law's part of a channel, by the state of its group. -/
abbrev Channel.OutputLaw (st : GState) (c : Channel) : Prop :=
  c.RangeLaw ∧ (st = .held → c.x = c.yPrev)

/-- The law reads three fields of a channel. -/
theorem Channel.OutputLaw.of_same {st : GState} {c d : Channel} (hc : c.OutputLaw st) (hp : d.profile = c.profile)
    (hy : d.yPrev = c.yPrev) (hx : d.x = c.x) : d.OutputLaw st := by
  rw [Channel.OutputLaw, Channel.RangeLaw, hp, hy, hx]
  exact hc

/-- The range clamp leaves the output within the range, whatever enters it (R80). -/
theorem Channel.output_range {c : Channel} (s5 : Int) (hc : c.RangeLaw) : (c.output s5).RangeLaw := by
  obtain ⟨hlt, hpark, -⟩ := hc
  exact ⟨hlt, hpark, parkValue_within _ hlt⟩

theorem Channel.live_range {c : Channel} (f : Nat) (hc : c.RangeLaw) : (c.live f).RangeLaw :=
  Channel.output_range (blend c.profile (conditioned c.profile c.d c.trim) f) hc

theorem Channel.rest_range {c : Channel} (hc : c.RangeLaw) : c.rest.RangeLaw := by
  obtain ⟨hlt, hpark, -⟩ := hc
  exact ⟨hlt, hpark, hpark⟩

/-- A HELD playout repeats the last output (R83). -/
theorem Channel.hold_output {c : Channel} (hc : c.OutputLaw .held) : c.hold.OutputLaw .held := by
  obtain ⟨⟨hlt, hpark, hy⟩, hx⟩ := hc
  have hxy : c.x = c.yPrev := hx rfl
  exact ⟨⟨hlt, hpark, by simpa only [Channel.hold, hxy] using hy⟩, fun _ => rfl⟩

/-- A profile written outside HELD brings its park value as the last output (R71). -/
theorem Channel.written_output {st : GState} {prof : Profile} (c : Channel) (hs : st ≠ .held) (hr : prof.RangeLaw) :
    ({ c with profile := prof, yPrev := prof.park } : Channel).OutputLaw st := by
  obtain ⟨hlt, hpark⟩ := hr
  exact ⟨⟨hlt, hpark, hpark⟩, fun h => absurd h hs⟩

theorem Channel.takeSlot_output {st : GState} {c : Channel} (o : Option Du) (hc : c.OutputLaw st) :
    (c.takeSlot o).OutputLaw st := by cases o <;> exact hc.of_same rfl rfl rfl

theorem Channel.takeTrim_output {st : GState} {c : Channel} (o : Option Du) (hc : c.OutputLaw st) :
    (c.takeTrim o).OutputLaw st := by cases o <;> exact hc.of_same rfl rfl rfl

/-! ## A group -/

/-- The same profile and last output in every channel. -/
abbrev Group.SameRange (x y : Group) : Prop :=
  ∀ l : LaneIx, (y.chans.get l).profile = (x.chans.get l).profile ∧ (y.chans.get l).yPrev = (x.chans.get l).yPrev

/-- The law carries over where profiles and last outputs stay, if a group then in HELD repeats its last outputs. -/
theorem Group.OutputLaw.of_sameRange {x y : Group} (hx : x.OutputLaw) (hr : x.SameRange y)
    (hh : y.state = .held → ∀ l : LaneIx, (y.chans.get l).x = (y.chans.get l).yPrev) : y.OutputLaw := by
  intro l
  obtain ⟨hp, hy⟩ := hr l
  refine ⟨?_, fun h => hh h l⟩
  rw [Channel.RangeLaw, hp, hy]
  exact (hx l).1

/-- Entering a state other than HELD asks nothing of the frozen sources. -/
theorem Group.OutputLaw.of_ne_held {x y : Group} (hx : x.OutputLaw) (hr : x.SameRange y) (hs : y.state ≠ .held) :
    y.OutputLaw :=
  hx.of_sameRange hr fun h => absurd h hs

theorem Group.enterIdle_output (x : Group) (hx : x.OutputLaw) : x.enterIdle.OutputLaw :=
  hx.of_ne_held (fun l => by simp) (by simp)

theorem Group.enterFaulted_output (x : Group) (hx : x.OutputLaw) : x.enterFaulted.OutputLaw :=
  hx.of_ne_held (fun l => by simp) (by simp)

theorem Group.enterRetryWait_output (x : Group) (hx : x.OutputLaw) : x.enterRetryWait.OutputLaw :=
  hx.of_ne_held (fun _ => ⟨rfl, rfl⟩) (by simp)

theorem Group.enterParking_output (x : Group) (hx : x.OutputLaw) : x.enterParking.OutputLaw :=
  hx.of_ne_held (fun l => by simp) (by simp)

/-- Entry into HELD freezes the last output as the source (R18). -/
theorem Group.enterHeld_output (x : Group) (hx : x.OutputLaw) : x.enterHeld.OutputLaw :=
  hx.of_sameRange (fun l => by simp) fun _ l => by simp

theorem Group.enterFadeIn_output {x : Group} (hx : x.OutputLaw) : x.enterFadeIn.OutputLaw :=
  hx.of_ne_held (fun l => by simp) (by simp)

/-- A change of one channel keeps the law when the changed channel meets it. -/
theorem Group.modChan_output {x : Group} (l : LaneIx) {f : Channel → Channel} (hx : x.OutputLaw)
    (hf : (f (x.chans.get l)).OutputLaw x.state) : (x.modChan l f).OutputLaw :=
  fun j => Group.modChan_keeps (law := Channel.OutputLaw x.state) l (fun _ => hf) (hx j)

theorem Group.obtain_output {x : Group} (hx : x.OutputLaw) : x.obtain.1.OutputLaw := by
  refine Group.obtain_keeps ?_ ?_ ?_ hx
  · rcases hq : x.queue with _ | ⟨e, rest⟩
    · rw [Group.take_nil hq]; exact hx
    · rw [Group.take_cons hq]
      intro l
      rw [Tab.get_mapIx]
      exact Channel.takeSlot_output _ (hx l)
  · intro l
    rw [Group.generate, Tab.get_mapIx]
    exact hx l
  · rcases hq : x.queue with _ | ⟨e, rest⟩
    · rw [Group.skip_nil hq]; exact hx
    · rw [Group.skip_cons hq]; exact hx

/-- Step 4 forms every output within its range: clamped, repeated, or the park value (R73, R80, R83). -/
theorem Group.condition_output {x : Group} (hx : x.OutputLaw) : x.condition.OutputLaw := by
  intro l
  rw [Group.condition_chans, Group.condition_state]
  rcases x.outputs_cases with ⟨hs, ho⟩ | ⟨hs, ho⟩ | ⟨hs, ho⟩ | ⟨hs, ho⟩ <;> rw [ho, Tab.get_map]
  · exact ⟨Channel.live_range _ (hx l).1, fun hh => by simp [hh, GState.live] at hs⟩
  · exact ⟨Channel.output_range _ (hx l).1, fun hh => nomatch hs.symm.trans hh⟩
  · rw [hs]
    exact Channel.hold_output (hs ▸ hx l)
  · exact ⟨Channel.rest_range (hx l).1, fun hh => by simp [hh] at hs⟩

theorem Group.Completion.keeps_output {x y : Group} {r : GenRun} {w i : Bool} (h : x.Completion r w i y)
    (hx : x.OutputLaw) : y.OutputLaw := by
  cases h with
  | stay => exact hx
  | burst | ended | risen | faded => exact hx.of_ne_held (fun _ => ⟨rfl, rfl⟩) (by simp)
  | parked =>
    exact Group.enterTarget_keeps (x.enterIdle_output hx) (x.enterRetryWait_output hx) (x.enterFaulted_output hx) hx
  | ticked => exact hx
  | resumed =>
    exact Group.resumeRun_keeps (Group.enterFadeIn_output hx) (hx.of_ne_held (fun _ => ⟨rfl, rfl⟩) (by simp))

/-- Every move keeps the output law. -/
theorem Group.Move.keeps_output {x y : Group} (h : x.Move y) (hx : x.OutputLaw) : y.OutputLaw := by
  cases h with
  | fresh => decide
  | obtain => exact Group.obtain_output hx
  | condition => exact Group.condition_output hx
  | countSince => rcases x.countSince_cases with ⟨h, -⟩ | ⟨h, -⟩ <;> rw [h] <;> exact hx
  | complete r w i => exact (x.complete_completion r w i).keeps_output hx
  | decimate => rcases x.decimate_cases with ⟨-, h⟩ | ⟨-, -, h⟩ | ⟨-, -, h⟩ <;> rw [h] <;> exact hx
  | trip ev hev =>
    exact Group.trip_keeps (law := Group.OutputLaw) (fun _ _ _ h => h) (fun _ _ _ h => h) (fun _ _ _ _ h => h)
      (fun z _ => z.enterRetryWait_output) (fun z _ => z.enterFaulted_output) (fun z _ => z.enterParking_output)
      (fun z _ => z.enterHeld_output) ev hx
  | interlockTrip =>
    exact Group.interlockTrip_keeps (law := Group.OutputLaw) (fun _ _ _ h => h) (fun _ _ _ _ h => h)
      enterFaulted_output hx
  | evaluate sets ts h => exact fun l => by rw [Group.evaluate_chans, Tab.get_mapIx]; exact hx l
  | arrive i seq slots h =>
    exact Group.arrive_keeps (law := Group.OutputLaw) (fun _ _ h => h) (fun _ h => h) (fun _ _ h => h)
      (fun _ _ h => h) (fun _ h => h) (fun _ h => h) (fun _ _ h => h) seq slots hx
  | trims slots =>
    exact fun l => by rw [Group.takeTrims_chans, Tab.get_mapIx]; exact Channel.takeTrim_output _ (hx l)
  | profile l prof hs hp hr =>
    exact Group.modChan_output l hx (Channel.written_output (x.chans.get l) (by simp [hs]) hr)
  | clearNaming i =>
    exact fun l => Group.clearNaming_keeps (law := Channel.OutputLaw x.state) i
      (Channel.OutputLaw.of_same (hx l) rfl rfl rfl) (hx l)
  | disarm hs => exact x.enterIdle_output hx
  | start hs => exact Group.enterFadeIn_output hx
  | stop =>
    rcases x.stopRun_cases with ⟨-, h⟩ | ⟨-, h⟩ <;> rw [h]
    · exact hx.of_ne_held (fun _ => ⟨rfl, rfl⟩) (by simp)
    · exact hx
  | abort y h =>
    rcases Group.abortRun_cases h with ⟨-, rfl⟩ | ⟨-, rfl⟩ | ⟨-, rfl⟩ | ⟨-, rfl⟩
    · exact x.enterParking_output hx
    · exact x.enterIdle_output hx
    · exact x.enterFaulted_output hx
    · exact hx
  | genStart hs => exact hx.of_ne_held (fun l => by simp) (by simp)
  | clearFaults w i =>
    exact Group.clearFaults_keeps (law := Group.OutputLaw) w i (fun _ h => h) enterIdle_output enterParking_output hx
  | clearClamps l =>
    exact Group.modChan_output l hx (Channel.OutputLaw.of_same (hx l) rfl rfl rfl)
  | _ => exact hx

theorem Group.arm_output (x : Group) (b : Option MapIx) (hx : x.OutputLaw) : (x.arm b).OutputLaw :=
  hx.of_ne_held (fun l => by simp) (by simp)

/-- Settles O11: every move keeps the output law, and so does ARM. -/
theorem outputsStayInRange : Obligations.OutputsStayInRange :=
  keptByEveryStep_of_event (fun _ _ h => h) fun _ _ he hs =>
    he.keepsEachGroup (fun _ _ hm => hm.keeps_output) (fun x b _ => x.arm_output b) hs

end Sys2Proof.Machine
end

section
/-! The slew bound (R79): where the last output lies in the range, the range clamp takes no output further from it
than the slew clamp does. -/

namespace Sys2Proof.Machine

/-- A bound about a number within it brings every value nearer to that number, or leaves it. -/
theorem natAbs_clampInt_sub_le {lo hi y : Int} (v : Int) (hlo : lo ≤ y) (hhi : y ≤ hi) :
    (clampInt lo hi v - y).natAbs ≤ (v - y).natAbs := by
  rcases clampInt_cases lo hi v with h | h | h <;> omega

/-- The slew clamp ends within the slew limit of the last output (R79). -/
theorem natAbs_slewed_sub_le {p : Profile} (y : Du) (s5 : Int) (h : p.slew ≠ 0) :
    (slewed p y s5 - y.toInt).natAbs ≤ p.slew := by
  rw [slewed, if_neg h]
  rcases clampInt_cases (y.toInt - p.slew) (y.toInt + p.slew) s5 with hc | hc | hc <;> omega

theorem Channel.output_slew_le {c : Channel} (s5 : Int) (hc : c.RangeLaw) (hs : c.profile.slew ≠ 0) :
    ((c.output s5).yPrev.toInt - c.yPrev.toInt).natAbs ≤ c.profile.slew := by
  obtain ⟨-, -, hlo, hhi⟩ := hc
  rw [(c.output_clamped s5).yPrev]
  exact (natAbs_clampInt_sub_le _ hlo hhi).trans (natAbs_slewed_sub_le _ _ hs)

/-- Step 2 moves nothing that the range law reads. -/
theorem Group.sourced_range {x : Group} {l : LaneIx} (h : (x.chans.get l).RangeLaw) :
    (x.sourced.chans.get l).RangeLaw := by
  rw [Group.sourced_chan]
  exact h

/-- What step 4 forms in a live state, PARKING and HELD lies within the slew limit of the last output (R79, R83). -/
theorem Group.formed_slew_le {x : Group} (l : LaneIx) (hx : x.OutputLaw)
    (hs : x.state ∈ [GState.fadeIn, .run, .fadeOut, .parking, .held]) (h0 : (x.chans.get l).profile.slew ≠ 0) :
    ((x.formed.chans.get l).yPrev.toInt - (x.chans.get l).yPrev.toInt).natAbs ≤ (x.chans.get l).profile.slew := by
  obtain ⟨hr, hheld⟩ := hx l
  have clamped (s5 : Int) : (((x.sourced.chans.get l).output s5).yPrev.toInt - (x.chans.get l).yPrev.toInt).natAbs
      ≤ (x.chans.get l).profile.slew := by
    have h := Channel.output_slew_le s5 (Group.sourced_range hr) (by rwa [Group.sourced_chan])
    rwa [Group.sourced_chan] at h ⊢
  have hcases : x.state.live = true ∨ x.state = .parking ∨ x.state = .held := by
    revert hs
    cases x.state <;> simp [GState.live]
  rcases hcases with h | h | h
  · rw [Group.formed_live h, Group.stepped_chans]
    exact clamped _
  · rw [Group.formed_parking h, Group.stepped_chans]
    exact clamped _
  · have hy : (x.formed.chans.get l).yPrev = (x.chans.get l).yPrev := by
      rw [Group.formed_held h, Group.sourced_chan]
      exact hheld h
    rw [hy, Int.sub_self]
    exact Nat.zero_le _

/-- Settles O48: steps 5 to 7 leave the outputs that step 4 formed. -/
theorem slewBoundsLiveParkingAndHeldMoves : Obligations.SlewBoundsLiveParkingAndHeldMoves := by
  intro s g l hlaw hs h0
  have ht : (s.playout g).group g = (s.group g).played s.wdExpired s.interlockOpen := State.playout_group s g
  refine ⟨s.playout g, exec_playout s g, ?_⟩
  rw [ht, (((s.group g).played_sameOutputs _ _).chans l).2.1]
  exact Group.formed_slew_le l hlaw hs h0

end Sys2Proof.Machine
end

section
/-! WRITE_PROFILE (R71): the order of its checks, and the park value stored. -/

namespace Sys2Proof.Machine

@[simp] theorem polarityOf_code (pl : Polarity) : polarityOf pl.code = some pl := by cases pl <;> rfl

theorem polarityOf_none {n : Nat} (h : 2 ≤ n) : polarityOf n = none := by
  match n, h with
  | _ + 2, _ => rfl

/-- A number moved to the nearer bound of a range that is not empty. -/
theorem clampInt_eq_max_min {lo hi : Int} (v : Int) (h : lo < hi) : clampInt lo hi v = max lo (min v hi) := by
  rcases clampInt_cases lo hi v with hc | hc | hc <;> omega

/-- The park value that a profile write stores: the one it carries, or the nearer bound (R71). -/
abbrev storedPark (lo hi pk : Du) : Du := BitVec.ofInt 16 (clampInt lo.toInt hi.toInt pk.toInt)

theorem storedPark_toInt {lo hi : Du} (pk : Du) (h : lo.toInt < hi.toInt) :
    (storedPark lo hi pk).toInt = max lo.toInt (min pk.toInt hi.toInt) := by
  rw [toInt_ofInt_clampInt, clampInt_eq_max_min _ h]

/-- A WRITE_PROFILE taken next is judged by the group's state, the polarity code and the order of the bounds. -/
theorem writeProfile_asks {s : State} {p : Port} {q : Request} {g : GroupIx} {l : LaneIx} {n : SetIx}
    {gh gl oh ol pol sh sl nh nl xh xl kh kl w : Byte}
    (h : s.Asks p q .setup 1 [BitVec.ofNat 8 (6 * g.val + l.val), gh, gl, oh, ol, pol, sh, sl, nh, nl, xh, xl,
      kh, kl, BitVec.ofNat 8 n.val, w]) :
    exec .writeProfile s = .next (s.carryOut p q (
      if (s.group g).state ≠ .idle then .refuse .wrongState
      else (polarityOf pol.toNat).elim (.refuse .badValue) fun pl =>
        if (xh ++ xl).toInt ≤ (nh ++ nl).toInt then .refuse .badValue
        else .take (decide (storedPark (nh ++ nl) (xh ++ xl) (kh ++ kl) ≠ kh ++ kl)) []
          ((s.dequeue p).modGroup g fun x => x.modChan l fun c => { c with
            profile :=
              { gain := (gh ++ gl).toNat, offset := oh ++ ol, polarity := pl, slew := (sh ++ sl).toNat,
                lmin := nh ++ nl, lmax := xh ++ xl, park := storedPark (nh ++ nl) (xh ++ xl) (kh ++ kl),
                limitSet := n, weight := w.toNat }
            yPrev := storedPark (nh ++ nl) (xh ++ xl) (kh ++ kl) }))) := by
  have hx : exec .writeProfile s = .next (s.carryOut p q (judgeWriteProfile p q (s.dequeue p))) :=
    exec_asks .writeProfile h rfl rfl
  have hc : channelOf (natAt8 q.operands 0) = some (g, l) := by
    rw [h.2.2.2]
    exact channelOf_ofNat g l
  have hn : indexOf 16 (natAt8 q.operands 14) = some n := by
    rw [h.2.2.2]
    exact indexOf_ofNat n (by decide)
  have hgain : natAt16 q.operands 1 = (gh ++ gl).toNat := by rw [h.2.2.2]; rfl
  have hoffset : wordAt q.operands 3 = oh ++ ol := by rw [h.2.2.2]; rfl
  have hpol : natAt8 q.operands 5 = pol.toNat := by rw [h.2.2.2]; rfl
  have hslew : natAt16 q.operands 6 = (sh ++ sl).toNat := by rw [h.2.2.2]; rfl
  have hmin : wordAt q.operands 8 = nh ++ nl := by rw [h.2.2.2]; rfl
  have hmax : wordAt q.operands 10 = xh ++ xl := by rw [h.2.2.2]; rfl
  have hpark : wordAt q.operands 12 = kh ++ kl := by rw [h.2.2.2]; rfl
  have hweight : natAt8 q.operands 15 = w.toNat := by rw [h.2.2.2]; rfl
  rw [hx, judgeWriteProfile, hc, hn, hgain, hoffset, hpol, hslew, hmin, hmax, hpark, hweight]
  simp only [State.group_dequeue, decide_not]
  cases polarityOf pol.toNat <;> rfl

/-- Settles O37, by the order of the checks. -/
theorem writeProfileReplacesTheProfile : Obligations.WriteProfileReplacesTheProfile := by
  intro s p q g l n gh gl oh ol pol sh sl nh nl xh xl kh kl w h
  rw [writeProfile_asks h]
  refine ⟨fun hs => by rw [if_pos hs], fun hs => ?_⟩
  rw [if_neg (not_not.mpr hs)]
  refine ⟨fun hbad => ?_, fun pl hpl hlt => ?_⟩
  · rcases hp : polarityOf pol.toNat with _ | pl
    · rfl
    · rcases hbad with hcode | hle
      · exact nomatch (polarityOf_none hcode).symm.trans hp
      · rw [Option.elim_some, if_pos hle]
  · rw [← hpl, polarityOf_code, Option.elim_some, if_neg (by omega)]
    exact ⟨storedPark (nh ++ nl) (xh ++ xl) (kh ++ kl), storedPark_toInt _ hlt, rfl⟩

end Sys2Proof.Machine
end

section
/-! GEN_CONFIG (R92): the order of its checks, the configuration stored, and when it differs from the one carried. -/

namespace Sys2Proof.Machine

/-! ## The operands of GEN_CONFIG -/

@[simp] theorem patternOf_code (p : Pattern) : patternOf p.code = some p := by cases p <;> rfl

theorem patternOf_none {n : Nat} (h : 4 ≤ n) : patternOf n = none := by
  match n, h with
  | _ + 4, _ => rfl

theorem Pattern.out8_code {p : Pattern} {b : Byte} (h : p.code = b.toNat) : out8 p.code = [b] := by
  rw [h, out8, BitVec.ofNat_toNat, BitVec.setWidth_eq]

/-- The number that three bytes carry, most significant first. -/
abbrev threeByteNat (a b c : Byte) : Nat := 65536 * a.toNat + 256 * b.toNat + c.toNat

theorem toNat_mul_add_append (a b c : Byte) : a.toNat * 65536 + (b ++ c).toNat = threeByteNat a b c := by
  have hb := b.isLt
  have hc := c.isLt
  rw [BitVec.toNat_append, ← Nat.shiftLeft_add_eq_or_of_lt hc, Nat.shiftLeft_eq, threeByteNat]
  omega

/-- Three bytes are the three-byte field of the number they carry. -/
theorem out24_threeByteNat (a b c : Byte) : out24 (threeByteNat a b c) = [a, b, c] := by
  have hb := b.isLt
  have hc := c.isLt
  have hhi : threeByteNat a b c / 65536 = a.toNat := by unfold threeByteNat; omega
  have hlo : BitVec.ofNat 16 (threeByteNat a b c) = b ++ c := by
    have h := toNat_mul_add_append a b c
    apply BitVec.eq_of_toNat_eq
    rw [BitVec.toNat_ofNat]
    omega
  rw [out24, hhi, out16, hlo, outWord_append, out8, BitVec.ofNat_toNat, BitVec.setWidth_eq]
  rfl

theorem threeByteNat_eq_zero (a b c : Byte) : threeByteNat a b c = 0 ↔ a = 0 ∧ b = 0 ∧ c = 0 := by
  have hz (x : Byte) : x = 0 ↔ x.toNat = 0 := BitVec.toNat_eq
  rw [hz, hz, hz, threeByteNat]
  omega

/-! ## The configuration stored (R92, step 4) -/

/-- The level stored: −32768 becomes −32767. -/
abbrev storedLevel (w : Du) : Du := if w = 0x8000#16 then 0x8001#16 else w

/-- The half-period stored: the one carried, or the nearer bound. -/
abbrev storedPeriod (p : Pattern) (n : Nat) : Nat := within (if p = .ramp then 2 else 1) 4096 n

/-- The seed stored: 0 becomes the default. -/
abbrev storedSeed (w : BitVec 16) : BitVec 16 := if w = 0 then 0xACE1#16 else w

/-- The configuration that GEN_CONFIG stores for what its operands carry (R92). -/
def storedGen (p : Pattern) (level : Du) (period : Nat) (seed : BitVec 16) (count : Nat) (mask : Byte) : GenConfig :=
  { pattern := p, level := storedLevel level, period := storedPeriod p period, seed := storedSeed seed,
    count := if count = 0 then none else some count, mask := mask.truncate 6 }

theorem storedLevel_toInt (w : Du) : (storedLevel w).toInt = max (-32767) w.toInt := by
  unfold storedLevel
  split
  · next h => rw [h]; decide
  · next h =>
    have hne : w.toInt ≠ -32768 := fun hw => h (BitVec.eq_of_toInt_eq (hw.trans (by decide)))
    have hle := BitVec.le_toInt w
    omega

theorem storedLevel_eq_self (w : Du) : storedLevel w = w ↔ w.toInt ≠ -32768 := by
  rw [← BitVec.toInt_inj, storedLevel_toInt]
  have hle := BitVec.le_toInt w
  omega

theorem storedPeriod_eq_self (p : Pattern) (n : Nat) :
    storedPeriod p n = n ↔ ¬ (n = 0 ∨ 4096 < n ∨ p = .ramp ∧ n = 1) := by
  by_cases hp : p = .ramp
  · rw [storedPeriod, if_pos hp, within_eq_self (by decide)]
    simp only [hp, true_and]
    omega
  · rw [storedPeriod, if_neg hp, within_eq_self (by decide)]
    simp only [hp, false_and, or_false]
    omega

theorem storedSeed_eq_self (w : BitVec 16) : storedSeed w = w ↔ w.toNat ≠ 0 := by
  unfold storedSeed
  split
  · next h => subst h; decide
  · next h => exact ⟨fun _ hz => h (BitVec.eq_of_toNat_eq hz), fun _ => rfl⟩

theorem storedPeriod_le (p : Pattern) (n : Nat) : storedPeriod p n ≤ 65535 :=
  Nat.le_trans (within_bounds n (by split <;> decide)).2 (by decide)

/-- The operand sequence of a stored configuration (R171): count and mask go back as they came. -/
theorem genPayload_stored {g : GroupIx} {p : Pattern} {pt c₂ c₁ c₀ mk : Byte} (hp : p.code = pt.toNat)
    (hm : mk.toNat < 64) (level : Du) (period : Nat) (seed : BitVec 16) :
    genPayload g (storedGen p level period seed (threeByteNat c₂ c₁ c₀) mk) =
      [BitVec.ofNat 8 g.val, pt] ++ outWord (storedLevel level) ++ out16 (storedPeriod p period)
        ++ outWord (storedSeed seed) ++ [c₂, c₁, c₀, mk] := by
  have hcount (n : Nat) : (if n = 0 then none else some n : Option Nat).getD 0 = n := by split <;> simp_all
  have hmask : out8 (mk.truncate 6).toNat = [mk] := by
    rw [out8, BitVec.toNat_setWidth, Nat.mod_eq_of_lt hm, BitVec.ofNat_toNat, BitVec.setWidth_eq]
  simp only [genPayload, storedGen, hcount, hmask, out24_threeByteNat, Pattern.out8_code hp, List.append_assoc]
  rfl

/-- The stored configuration's operand sequence is the operands' own just where no field was replaced (R92). -/
theorem genPayload_stored_eq_operands {g : GroupIx} {p : Pattern} {pt lh ll hh hl sh sl c₂ c₁ c₀ mk : Byte} :
    [BitVec.ofNat 8 g.val, pt] ++ outWord (storedLevel (lh ++ ll)) ++ out16 (storedPeriod p (hh ++ hl).toNat)
        ++ outWord (storedSeed (sh ++ sl)) ++ [c₂, c₁, c₀, mk]
      = [BitVec.ofNat 8 g.val, pt, lh, ll, hh, hl, sh, sl, c₂, c₁, c₀, mk] ↔
    ¬ ((lh ++ ll).toInt = -32768 ∨ (hh ++ hl).toNat = 0 ∨ 4096 < (hh ++ hl).toNat
      ∨ p = .ramp ∧ (hh ++ hl).toNat = 1 ∨ (sh ++ sl).toNat = 0) := by
  have hops : [BitVec.ofNat 8 g.val, pt, lh, ll, hh, hl, sh, sl, c₂, c₁, c₀, mk]
      = [BitVec.ofNat 8 g.val, pt] ++ outWord (lh ++ ll) ++ out16 (hh ++ hl).toNat ++ outWord (sh ++ sl)
        ++ [c₂, c₁, c₀, mk] := by
    rw [out16, BitVec.ofNat_toNat, BitVec.setWidth_eq]
    simp only [outWord_append]
    rfl
  have hfields : storedLevel (lh ++ ll) = lh ++ ll ∧ storedPeriod p (hh ++ hl).toNat = (hh ++ hl).toNat
        ∧ storedSeed (sh ++ sl) = sh ++ sl ↔
      ¬ ((lh ++ ll).toInt = -32768 ∨ (hh ++ hl).toNat = 0 ∨ 4096 < (hh ++ hl).toNat
        ∨ p = .ramp ∧ (hh ++ hl).toNat = 1 ∨ (sh ++ sl).toNat = 0) := by
    rw [storedLevel_eq_self, storedPeriod_eq_self, storedSeed_eq_self]
    tauto
  rw [hops, ← hfields]
  constructor
  · intro h
    simp only [List.append_assoc, List.append_cancel_left_eq] at h
    obtain ⟨hlevel, h⟩ := outWord_append_inj h
    obtain ⟨hperiod, h⟩ := out16_append_inj (storedPeriod_le _ _) (Nat.le_of_lt_succ (hh ++ hl).isLt) h
    exact ⟨hlevel, hperiod, (outWord_append_inj h).1⟩
  · rintro ⟨hlevel, hperiod, hseed⟩
    rw [hlevel, hperiod, hseed]

/-! ## The request -/

section Asked

variable {s : State} {p : Port} {q : Request} {g : GroupIx} {pt lh ll hh hl sh sl c₂ c₁ c₀ mk : Byte}

/-- A pattern code past the last, or a mask bit that is no lane's, is refused (R92, step 3). -/
theorem genConfigOf_none {bs : List Byte} (h : 4 ≤ natAt8 bs 1 ∨ 64 ≤ natAt8 bs 11) : genConfigOf bs = none := by
  rw [genConfigOf]
  cases hp : patternOf (natAt8 bs 1) with
  | none => rfl
  | some pat =>
    rcases h with hcode | hmask
    · exact nomatch (patternOf_none hcode).symm.trans hp
    · exact if_neg fun hm => Nat.not_lt.mpr hmask ((laneMaskOk_iff _).mp hm)

/-- Operands with a known pattern and a mask of lanes are stored as the configuration they carry asks. -/
theorem genConfigOf_some {pat : Pattern} (gb : Byte) (hp : pat.code = pt.toNat) (hm : mk.toNat < 64) :
    genConfigOf [gb, pt, lh, ll, hh, hl, sh, sl, c₂, c₁, c₀, mk] =
      some (storedGen pat (lh ++ ll) (hh ++ hl).toNat (sh ++ sl) (threeByteNat c₂ c₁ c₀) mk) := by
  have hpat : patternOf (natAt8 [gb, pt, lh, ll, hh, hl, sh, sl, c₂, c₁, c₀, mk] 1) = some pat :=
    (congrArg patternOf hp.symm).trans (patternOf_code pat)
  have hcount : natAt24 [gb, pt, lh, ll, hh, hl, sh, sl, c₂, c₁, c₀, mk] 8 = threeByteNat c₂ c₁ c₀ :=
    toNat_mul_add_append c₂ c₁ c₀
  rw [genConfigOf, hpat, hcount]
  exact if_pos ((laneMaskOk_iff mk).mpr hm)

/-- A GEN_CONFIG taken next is judged by the group's state, then by what its operands parse as. -/
theorem genConfig_asks
    (h : s.Asks p q .setup 8 [BitVec.ofNat 8 g.val, pt, lh, ll, hh, hl, sh, sl, c₂, c₁, c₀, mk]) :
    exec .genConfig s = .next (s.carryOut p q (
      if (s.group g).state ≠ .idle ∧ (s.group g).state ≠ .armed then .refuse .wrongState
      else (genConfigOf q.operands).elim (.refuse .badValue) fun c =>
        .take (genPayload g c != q.operands) (genPayload g c)
          ((s.dequeue p).setGroup g { s.group g with gen := c }))) := by
  have hx : exec .genConfig s = .next (s.carryOut p q (judgeGenConfig p q (s.dequeue p))) :=
    exec_asks .genConfig h rfl rfl
  rw [hx, judgeGenConfig, h.operand_group]
  simp only [State.group_dequeue]
  cases genConfigOf q.operands with
  | none => rfl
  | some c => simp only [Option.elim_some, State.modGroup, State.group_dequeue]

end Asked

/-- Settles O40: by the order of the checks, and the configuration stored field by field. -/
theorem genConfigReplacesTheConfiguration : Obligations.GenConfigReplacesTheConfiguration := by
  intro s p q g pt lh ll hh hl sh sl c₂ c₁ c₀ mk h
  have hx := genConfig_asks h
  obtain ⟨-, -, -, hops⟩ := h
  rw [hx, hops]
  refine ⟨fun hi ha => by rw [if_pos ⟨hi, ha⟩], fun hs => ?_⟩
  rw [if_neg (by tauto)]
  refine ⟨fun hbad => ?_, fun pat hp hm => ?_⟩
  · rw [genConfigOf_none (by exact hbad)]
    rfl
  · rw [genConfigOf_some _ hp hm, Option.elim_some, genPayload_stored hp hm]
    refine ⟨_, storedGen pat (lh ++ ll) (hh ++ hl).toNat (sh ++ sl) (threeByteNat c₂ c₁ c₀) mk, rfl,
      storedLevel_toInt _, rfl, ?_, ?_, ?_, ?_, rfl⟩
    · exact if_congr BitVec.toNat_eq rfl rfl
    · exact if_congr (threeByteNat_eq_zero c₂ c₁ c₀) rfl rfl
    · exact BitVec.eq_of_toNat_eq (by simp [storedGen])
    · rw [bne_iff_ne, Ne, genPayload_stored_eq_operands, not_not]

end Sys2Proof.Machine
end

section
/-! Generated playouts (R93 to R97, R100): the sample and the runtime part that step 2 leaves, carried through to the
playout's end, and the flush of a state that a live playout ends in. -/

namespace Sys2Proof.Machine

/-! ## The generator (R93 to R97) -/

theorem genSample_constant {c : GenConfig} (h : c.pattern = .constant) (r : GenRun) :
    genSample c r = c.level.toInt := by simp only [genSample, h]

theorem genSample_square {c : GenConfig} (h : c.pattern = .square) (r : GenRun) : genSample c r =
    if r.phase < c.period then (c.level.toInt.natAbs : Int) else -(c.level.toInt.natAbs : Int) := by
  simp only [genSample, h]

/-- The spec's floor is the division of integers, which here are not negative (R95). -/
theorem genSample_ramp {c : GenConfig} (h : c.pattern = .ramp) (r : GenRun) : genSample c r =
    (c.level.toInt.natAbs : Int) - 2 * (c.level.toInt.natAbs : Int) * r.phase / c.period := by
  simp only [genSample, h, Int.natCast_ediv, Int.natCast_mul, Nat.cast_ofNat]

theorem genSample_noise {c : GenConfig} (h : c.pattern = .noise) (r : GenRun) : genSample c r =
    Int.tdiv ((c.level.toInt.natAbs : Int) * ((r.noise.toNat : Int) - 32768)) 32768 := by
  simp only [genSample, h]

theorem genAdvance_noise (c : GenConfig) (b : Bool) (r : GenRun) : (genAdvance c b r).noise =
    if c.pattern ≠ .noise then r.noise
    else if r.noise.getLsbD 0 then (r.noise >>> 1) ^^^ 0xB400#16 else r.noise >>> 1 := by
  cases hp : c.pattern <;> simp [genAdvance, hp, noiseNext]

/-- The count advances in FADE_IN and RUN, while the pattern has not ended (R97). -/
theorem genAdvance_count {st : GState} (h : st.live = true) (c : GenConfig) (r : GenRun) :
    (genAdvance c st.running r).count =
      if st ≠ .fadeOut ∧ r.ended = false then min (r.count + 1) 16777215 else r.count := by
  revert h
  cases st <;> cases he : r.ended <;> simp [genAdvance, GState.live, GState.running, he, Config.genCountMax]

/-! ## What a generated playout leaves of step 2 -/

/-- Step 2 of a generated playout moves the last drive samples and the generator's runtime part alone (R93, R100). -/
theorem Group.sourced_generated {x : Group} (h : x.state.live = true) (hs : x.source = .generator) :
    x.sourced.queue = x.queue ∧ x.sourced.tallies = x.tallies ∧ x.sourced.streak = x.streak
      ∧ x.sourced.ctr.underruns = x.ctr.underruns
      ∧ x.sourced.genRun = genAdvance x.gen x.state.running x.genRun
      ∧ ∀ l : LaneIx, (x.sourced.chans.get l).d =
          if x.gen.mask.getLsbD l.val then BitVec.ofInt 16 (genSample x.gen x.genRun) else 0 := by
  rw [x.sourced_generate h hs]
  refine ⟨rfl, rfl, rfl, rfl, rfl, fun l => ?_⟩
  rw [Group.generate, Tab.get_mapIx]
  rfl

/-- The completions of a live playout end the pattern at most: phase, noise register and count stay. -/
theorem Group.Completion.live_genRun {x y : Group} {r : GenRun} {w i : Bool} (h : x.Completion r w i y)
    (hx : x.state.live = true) :
    y.genRun.phase = x.genRun.phase ∧ y.genRun.noise = x.genRun.noise ∧ y.genRun.count = x.genRun.count := by
  cases h with
  | stay | burst | ended | risen | faded => exact ⟨rfl, rfl, rfl⟩
  | parked hs | ticked hs | resumed hs => simp [hs, GState.live] at hx

/-- The generator after a live playout is the one that step 2 left, its end apart. -/
theorem Group.played_genRun {x : Group} (w i : Bool) (h : x.state.live = true) :
    (x.played w i).genRun.phase = x.sourced.genRun.phase ∧ (x.played w i).genRun.noise = x.sourced.genRun.noise
      ∧ (x.played w i).genRun.count = x.sourced.genRun.count := by
  obtain ⟨-, hrun, -⟩ := x.played_completed w i
  rw [hrun, ← Group.counted_genRun]
  exact (x.completed_completion w i).live_genRun (by simpa using h)

/-! ## The queue, kept or flushed (R66, R100) -/

/-- The queue and FLUSHED as they were. -/
abbrev Group.KeepsQueue (x t : Group) : Prop := t.queue = x.queue ∧ t.tallies.flushed = x.tallies.flushed

/-- The queue emptied by a flush (R66). -/
abbrev Group.EmptiesQueue (x t : Group) : Prop :=
  t.queue = [] ∧ t.tallies.flushed = satAdd x.tallies.flushed x.queue.length

theorem Group.KeepsQueue.flush {x y : Group} (h : x.KeepsQueue y) : x.EmptiesQueue y.flush := by
  obtain ⟨hq, hf⟩ := h
  exact ⟨rfl, by rw [Group.flush_tallies, hq, hf]⟩

/-- A second flush finds nothing. -/
theorem Group.EmptiesQueue.flush {x y : Group} (h : x.EmptiesQueue y) : x.EmptiesQueue y.flush := by
  obtain ⟨hq, hf⟩ := h
  refine ⟨rfl, ?_⟩
  rw [Group.flush_tallies, hq, hf]
  simp [satAdd]

/-- The queue kept outside ARMED, IDLE and FAULTED, or flushed on entering FAULTED (R17). -/
abbrev Group.KeepsQueueOrFaults (x t : Group) : Prop :=
  x.KeepsQueue t ∧ t.state ∈ [GState.fadeIn, .run, .fadeOut, .parking, .held, .retryWait]
    ∨ x.EmptiesQueue t ∧ t.state = .faulted

/-- Short of FAULTED the queue is still kept. -/
theorem Group.KeepsQueueOrFaults.kept {x y : Group} (h : x.KeepsQueueOrFaults y) (hy : y.state ≠ .faulted) :
    x.KeepsQueue y := by
  rcases h with ⟨h, -⟩ | ⟨-, hf⟩
  · exact h
  · exact absurd hf hy

/-- The trips at a live state keep the queue, until they enter FAULTED (R144). -/
theorem Group.tripAll_keepsQueueOrFaults {x y : Group} (hy : y.state.live = true) (hq : x.KeepsQueue y)
    (evs : List MonEvent) : x.KeepsQueueOrFaults (y.tripAll evs) := by
  refine Group.tripAll_keeps (law := x.KeepsQueueOrFaults) (fun _ ev => ?_) evs (.inl ⟨hq, ?_⟩)
  · refine Group.trip_keeps (law := x.KeepsQueueOrFaults) (fun _ _ _ h => h) (fun _ _ _ h => h)
      (fun _ _ _ _ h => h) (fun z hs h => .inl ⟨h.kept fun hf => ?_, by simp⟩)
      (fun z hs h => .inr ⟨(h.kept hs).flush, rfl⟩) (fun z hs h => .inl ⟨h.kept fun hf => ?_, by simp⟩)
      (fun z hs h => .inl ⟨h.kept fun hf => ?_, by simp⟩) ev
    · simp [hf, GState.entersTarget] at hs
    · simp [hf, GState.live] at hs
    · simp [hf, GState.live] at hs
  · revert hy
    cases y.state <;> simp [GState.live]

/-- Trips leave an emptied queue empty, and FLUSHED as it is. -/
theorem Group.tripAll_emptiesQueue {x y : Group} (h : x.EmptiesQueue y) (evs : List MonEvent) :
    x.EmptiesQueue (y.tripAll evs) :=
  Group.tripAll_keeps (law := x.EmptiesQueue) (fun _ ev => Group.trip_keeps (law := x.EmptiesQueue)
    (fun _ _ _ h => h) (fun _ _ _ h => h) (fun _ _ _ _ h => h) (fun _ _ h => h) (fun _ _ h => h.flush)
    (fun _ _ h => h) (fun _ _ h => h) ev) evs h

/-- The completions of a live playout keep the queue, the streak and a live state, but for the fade-out's, which
flushes into ARMED (R12, R13, R97, R98). -/
theorem Group.Completion.live_queue {x y : Group} {r : GenRun} {w i : Bool} (h : x.Completion r w i y)
    (hx : x.state.live = true) :
    x.KeepsQueue y ∧ y.streak = x.streak ∧ y.state.live = true
      ∨ x.state = .fadeOut ∧ x.EmptiesQueue y ∧ y.state = .armed := by
  cases h with
  | stay => exact .inl ⟨⟨rfl, rfl⟩, rfl, hx⟩
  | burst | ended | risen => exact .inl ⟨⟨rfl, rfl⟩, rfl, rfl⟩
  | faded hs => exact .inr ⟨hs, Group.KeepsQueue.flush ⟨rfl, rfl⟩, rfl⟩
  | parked hs | ticked hs | resumed hs => simp [hs, GState.live] at hx

/-- A live playout keeps the queue of step 2 with the streak, or flushes it into FAULTED; from FADE_OUT it may flush
it into ARMED, where a trip may then end in RETRY_WAIT or FAULTED. -/
theorem Group.played_live_queue {x : Group} (w i : Bool) (h : x.state.live = true) :
    (x.played w i).streak = x.sourced.streak ∧ x.sourced.KeepsQueueOrFaults (x.played w i)
      ∨ x.state = .fadeOut ∧ x.sourced.EmptiesQueue (x.played w i)
        ∧ (x.played w i).state ∈ [GState.armed, .retryWait, .faulted] := by
  have hflushed : x.counted.tallies.flushed = x.sourced.tallies.flushed := by rw [Group.counted_frame]
  have htallies : (x.completed w i).tallies = (x.settled w i).tallies := by rw [Group.settled_frame]
  have hc := (x.completed_completion w i).live_queue (by simpa using h)
  rw [Group.KeepsQueue, Group.EmptiesQueue, Group.counted_queue, Group.counted_streak, Group.counted_state,
    hflushed, htallies, ← Group.settled_queue, ← Group.settled_state] at hc
  rw [Group.played_streak]
  rcases hc with ⟨hq, hs, hl⟩ | ⟨hs, hq, ha⟩
  · exact .inl ⟨hs, Group.tripAll_keepsQueueOrFaults hl hq _⟩
  · exact .inr ⟨hs, Group.tripAll_emptiesQueue hq _, Group.tripAll_armed ha _⟩

/-- Settles O50: step 2 by the pattern, and what the later steps leave of it. -/
theorem generatedPlayoutsFollowThePattern : Obligations.GeneratedPlayoutsFollowThePattern := by
  rintro s g x mag v rfl hl hs rfl hv
  have ht : (s.playout g).group g = (s.group g).played s.wdExpired s.interlockOpen := State.playout_group s g
  refine ⟨s.playout g, exec_playout s g, ?_⟩
  rw [ht]
  generalize s.group g = x at *
  generalize s.wdExpired = w
  generalize s.interlockOpen = i
  obtain ⟨he, hp, hk, hu, hd⟩ := x.played_obtained w i
  obtain ⟨hphase, hnoise, hcount⟩ := x.played_genRun w i hl
  obtain ⟨gq, gt, gs, gu, grun, gd⟩ := x.sourced_generated hl hs
  have hqueue := x.played_live_queue w i hl
  rw [Group.KeepsQueueOrFaults, Group.KeepsQueue, Group.EmptiesQueue, gq, gt, gs] at hqueue
  have hsample : genSample x.gen x.genRun = v := by
    rw [hv]
    cases hpat : x.gen.pattern with
    | constant => exact genSample_constant hpat _
    | square => exact genSample_square hpat _
    | ramp => exact genSample_ramp hpat _
    | noise => exact genSample_noise hpat _
  have hsamples (l : LaneIx) : ((x.played w i).chans.get l).d =
      if x.gen.mask.getLsbD l.val then BitVec.ofInt 16 v else 0 := by rw [hd, gd, hsample]
  rw [he, hp, hk, hu, hphase, hnoise, hcount, grun, gt, gu]
  refine ⟨fun l => ⟨hsamples l, fun hm hlo hhi => ?_⟩, ?_, genAdvance_noise .., genAdvance_count hl .., rfl, rfl,
    rfl, rfl, fun hst => ?_, fun hst => ?_, fun hst => ?_⟩
  · rw [hsamples, if_pos hm]
    exact BitVec.toInt_ofInt_eq_self (by decide) hlo (by norm_num; omega)
  · cases hpat : x.gen.pattern <;> simp [genAdvance, phaseNext, hpat]
  · rcases hqueue with ⟨-, ⟨hq, -⟩ | ⟨-, hf⟩⟩ | ⟨hfo, -, hend⟩
    · exact hq
    · simp [hf] at hst
    · rcases hst with hst | ⟨hne, -⟩
      · revert hst hend
        cases (x.played w i).state <;> simp
      · exact absurd hfo hne
  · rcases hqueue with ⟨-, ⟨-, hend⟩ | ⟨hq, -⟩⟩ | ⟨-, hq, -⟩
    · revert hst hend
      cases (x.played w i).state <;> simp
    · exact hq
    · exact hq
  · rcases hqueue with ⟨hk, -⟩ | ⟨hfo, -, hend⟩
    · exact hk
    · rcases hst with hne | hst
      · exact absurd hfo hne
      · revert hst hend
        cases (x.played w i).state <;> simp

end Sys2Proof.Machine
end

section
/-! A feedback frame judged (R105 to R110): the fate of a frame by the first test it fails, and what an accepted frame
leaves of its group and of the lines. -/

namespace Sys2Proof.Machine

/-! ## The tests (R105 to R109) -/

theorem exec_feedbackFrame (s : State) (bs : List Byte) :
    exec (.feedbackFrame bs) s = .next (s.feedback bs) := rfl

theorem judgeFeedback_checkError (s : State) {bs : List Byte} (h : crcOk bs = false) :
    s.judgeFeedback bs = .checkError := by
  simp [State.judgeFeedback, h]

/-- A frame of the wrong length, or of no group (R107). -/
theorem judgeFeedback_malformed (s : State) {bs : List Byte} (h : crcOk bs = true)
    (hbad : bs.length ≠ 42 ∨ 4 ≤ natAt8 bs 0) : s.judgeFeedback bs = .malformed := by
  by_cases hl : bs.length = 42
  · have hg : feedbackGroup bs = none := dif_neg (Nat.not_lt.mpr (hbad.resolve_left (not_not_intro hl)))
    simp [State.judgeFeedback, h, hl, feedbackLength, hg]
  · simp [State.judgeFeedback, h, hl, feedbackLength]

/-- A frame that names a group is judged by its echo (R108, R109). -/
theorem judgeFeedback_named (s : State) {bs : List Byte} {g : GroupIx} (h : crcOk bs = true) (hl : bs.length = 42)
    (hg : natAt8 bs 0 = g.val) : s.judgeFeedback bs =
      if (s.group g).echoNewer (wordAt bs 2) && (s.group g).echoInWindow (wordAt bs 2) then .accepted g
      else .stale g := by
  have hix : feedbackGroup bs = some g := by simp [feedbackGroup, indexOf, hg]
  simp [State.judgeFeedback, h, hl, feedbackLength, hix, feedbackEcho]

/-- With no accepted echo every echo is newer (R109). -/
theorem Group.echoNewer_iff (x : Group) (e : Seq) : x.echoNewer e = true ↔
    ∀ last : Seq, x.lastEcho = some last → 1 ≤ (e - last).toNat ∧ (e - last).toNat ≤ 32767 := by
  unfold Group.echoNewer
  cases x.lastEcho <;> simp [newer]

theorem Group.echoInWindow_iff (x : Group) (e : Seq) : x.echoInWindow e = true ↔ (x.outSeq - e).toNat ≤ 3 :=
  decide_eq_true_iff

/-- An echo that is newer and within the lag window is accepted, any other is stale (R109, R110). -/
theorem judgeFeedback_accepted {s : State} {bs : List Byte} {g : GroupIx} (h : crcOk bs = true) (hl : bs.length = 42)
    (hg : natAt8 bs 0 = g.val) (hnew : ∀ last : Seq, (s.group g).lastEcho = some last →
      1 ≤ (wordAt bs 2 - last).toNat ∧ (wordAt bs 2 - last).toNat ≤ 32767)
    (hwin : ((s.group g).outSeq - wordAt bs 2).toNat ≤ 3) : s.judgeFeedback bs = .accepted g := by
  rw [judgeFeedback_named s h hl hg, if_pos]
  rw [Bool.and_eq_true, Group.echoNewer_iff, Group.echoInWindow_iff]
  exact ⟨hnew, hwin⟩

theorem judgeFeedback_stale {s : State} {bs : List Byte} {g : GroupIx} (h : crcOk bs = true) (hl : bs.length = 42)
    (hg : natAt8 bs 0 = g.val) (hold : (∃ last : Seq, (s.group g).lastEcho = some last
        ∧ ((wordAt bs 2 - last).toNat = 0 ∨ 32768 ≤ (wordAt bs 2 - last).toNat))
      ∨ 4 ≤ ((s.group g).outSeq - wordAt bs 2).toNat) : s.judgeFeedback bs = .stale g := by
  rw [judgeFeedback_named s h hl hg, if_neg]
  rw [Bool.and_eq_true, Group.echoNewer_iff, Group.echoInWindow_iff]
  rintro ⟨hnew, hwin⟩
  rcases hold with ⟨last, he, hbad⟩ | hfar
  · obtain ⟨hlo, hhi⟩ := hnew last he
    omega
  · omega

/-! ## An accepted frame (R110) -/

/-- The evaluation moves the channels alone. -/
theorem State.heard_frame (s : State) (g : GroupIx) (bs : List Byte) :
    s.heard g bs = { (s.group g).acceptEcho (wordAt bs 2) with chans := (s.heard g bs).chans } := by
  unfold State.heard
  dsimp only
  split <;> rfl

theorem State.heard_state (s : State) (g : GroupIx) (bs : List Byte) :
    (s.heard g bs).state = (s.group g).state := by rw [State.heard_frame, Group.acceptEcho_state]

theorem State.heard_unwatched {s : State} {g : GroupIx} (bs : List Byte) (h : (s.group g).state.watched = false) :
    s.heard g bs = (s.group g).acceptEcho (wordAt bs 2) ∧ s.feedbackEvents g bs = [] := by
  simp [State.heard, State.feedbackEvents, h, feedbackEcho]

/-- The group named by an accepted frame is the one that was heard, tripped by the frame's events. -/
theorem State.feedback_group {s : State} {bs : List Byte} {g : GroupIx} (h : s.judgeFeedback bs = .accepted g) :
    (s.feedback bs).group g = (s.heard g bs).tripAll (s.feedbackEvents g bs) := by
  rw [State.feedback_accepted h, State.group_deliver, State.group_setGroup]

theorem State.feedback_group_ne {s : State} {bs : List Byte} {g j : GroupIx} (h : s.judgeFeedback bs = .accepted g)
    (hne : j ≠ g) : (s.feedback bs).group j = s.group j := by
  rw [State.feedback_accepted h, State.group_deliver_ne _ _ hne, State.group_setGroup_ne _ _ hne]
  rfl

/-- No trip moves FEEDBACK_ACCEPTED. -/
theorem Group.tripAll_feedbackAccepted (x : Group) (evs : List MonEvent) :
    (x.tripAll evs).ctr.feedbackAccepted = x.ctr.feedbackAccepted :=
  Group.tripAll_keeps (law := fun t => t.ctr.feedbackAccepted = x.ctr.feedbackAccepted)
    (fun _ ev h => Group.trip_keeps (law := fun t => t.ctr.feedbackAccepted = x.ctr.feedbackAccepted)
      (fun _ _ _ h => h) (fun _ _ _ h => h) (fun _ _ _ _ h => h) (fun _ _ h => h) (fun _ _ h => h)
      (fun _ _ h => h) (fun _ _ h => h) ev h) evs rfl

/-- The steps of R110 that every state takes survive the trips. -/
theorem State.feedback_recorded {s : State} {bs : List Byte} {g : GroupIx} (h : s.judgeFeedback bs = .accepted g) :
    ((s.feedback bs).group g).lastEcho = some (wordAt bs 2) ∧ ((s.feedback bs).group g).sinceFb = 0
      ∧ ((s.feedback bs).group g).ctr.feedbackAccepted = satAdd (s.group g).ctr.feedbackAccepted 1 := by
  have hrun := (s.heard g bs).tripAll_sameRun (s.feedbackEvents g bs)
  obtain ⟨-, -, -, -, -, -, -, hsince, -, -, -, -, -, hecho, -⟩ := hrun
  rw [State.feedback_group h, hsince, hecho, Group.tripAll_feedbackAccepted, State.heard_frame]
  exact ⟨rfl, rfl, rfl⟩

/-- In IDLE and FAULTED an accepted frame does nothing more (R110). -/
theorem State.feedback_unwatched {s : State} {bs : List Byte} {g : GroupIx} (h : s.judgeFeedback bs = .accepted g)
    (hs : (s.group g).state.watched = false) :
    (s.feedback bs).group g = (s.group g).acceptEcho (wordAt bs 2) := by
  obtain ⟨hheard, hev⟩ := State.heard_unwatched bs hs
  rw [State.feedback_group h, hev, Group.tripAll_nil, hheard]

/-! ## The lines (R155) -/

theorem mem_groupList (g : GroupIx) : g ∈ groupList := by revert g; decide

/-- Lines just driven follow the latched sets and the mask. -/
theorem State.driveLines_lineLaw (s : State) : s.driveLines.LineLaw := by
  simp [State.LineLaw, faultOf, alertOf, Group.holdsAction, Group.holds, selects, mem_groupList, State.group]

/-! ## The statement -/

/-- Settles O53: the fate of the frame by the tests in order, and what each fate leaves. -/
theorem feedbackIsJudgedInOrder : Obligations.FeedbackIsJudgedInOrder := by
  intro s bs
  refine ⟨fun hc => ?_, fun hc hbad => ?_, ?_⟩
  · rw [exec_feedbackFrame, State.feedback_checkError (judgeFeedback_checkError s hc)]
    rfl
  · rw [exec_feedbackFrame, State.feedback_malformed (judgeFeedback_malformed s hc hbad)]
    rfl
  · rintro hc hl g x hg rfl
    refine ⟨fun hstale => ?_, fun hnew hwin => ?_⟩
    · rw [exec_feedbackFrame, State.feedback_stale (judgeFeedback_stale hc hl hg hstale)]
      rfl
    · have hfate := judgeFeedback_accepted hc hl hg hnew hwin
      obtain ⟨hecho, hsince, hctr⟩ := State.feedback_recorded hfate
      refine ⟨s.feedback bs, exec_feedbackFrame s bs, ?_, fun j hne => State.feedback_group_ne hfate hne, ?_,
        hecho, hsince, hctr, fun hst => ?_⟩
      · rw [State.feedback_accepted hfate]
        rfl
      · rw [State.feedback_accepted hfate]
        exact State.driveLines_lineLaw _
      · have hun : (s.group g).state.watched = false := by rcases hst with h | h <;> rw [h] <;> rfl
        rw [State.feedback_unwatched hfate hun]
        rfl

end Sys2Proof.Machine
end

section
/-! The channel monitors at an accepted feedback frame (R110, R121, R122): the condition and the outcome of one monitor,
its event among the frame's, and what the frame's trips leave of its record and of what it latched. -/

namespace Sys2Proof.Machine

/-! ## One monitor (R121, R122) -/

theorem condPresent_position (ls : LimitSet) (t : Triple) : condPresent ls t .position = true ↔
    t.position.toInt < ls.posLo.toInt ∨ ls.posHi.toInt < t.position.toInt := by
  simp [condPresent]

theorem condPresent_force (ls : LimitSet) (t : Triple) :
    condPresent ls t .force = true ↔ (ls.forceMax : Int) < |t.force.toInt| := by
  rw [← Int.natCast_natAbs, Int.ofNat_lt]
  exact decide_eq_true_iff

theorem condPresent_error (ls : LimitSet) (t : Triple) :
    condPresent ls t .error = true ↔ (ls.errMax : Int) < |t.error.toInt| := by
  rw [← Int.natCast_natAbs, Int.ofNat_lt]
  exact decide_eq_true_iff

/-- A monitor's count after an evaluation (R122). -/
def MonRec.countAfter (r : MonRec) (present : Bool) : Nat :=
  if present then min (r.count + 1) Config.deglitchMax else 0

theorem MonRec.evaluate_off {m : LimitMon} (r : MonRec) (present : Bool) (h : m.mode = .off) :
    r.evaluate m present = ({ cond := false, count := 0, tripped := false }, false) := if_pos h

theorem MonRec.evaluate_on {m : LimitMon} (r : MonRec) (present : Bool) (h : m.mode ≠ .off) :
    r.evaluate m present =
      ({ cond := present, count := r.countAfter present,
         tripped := present && r.tripped || (r.evaluate m present).2 }, (r.evaluate m present).2) := by
  simp [MonRec.evaluate, h, MonRec.countAfter]

/-- A monitor trips where its count comes to the deglitch count and it has not tripped for the same condition. -/
theorem MonRec.evaluate_trips (r : MonRec) (m : LimitMon) (present : Bool) : (r.evaluate m present).2 = true ↔
    m.mode ≠ .off ∧ r.countAfter present = m.deglitch ∧ ¬ (present = true ∧ r.tripped = true) := by
  by_cases h : m.mode = .off
  · simp [MonRec.evaluate_off r present h, h]
  · cases present <;> simp [MonRec.evaluate, h, MonRec.countAfter]

/-! ## The evaluation of a group (R110) -/

/-- The values of a lane stand two bytes apart, from byte 4 on (R187). -/
theorem feedbackTriples_get (bs : List Byte) (l : LaneIx) : (feedbackTriples bs).get l =
    { position := wordAt bs (4 + 6 * l.val), force := wordAt bs (4 + 6 * l.val + 2),
      error := wordAt bs (4 + 6 * l.val + 4) } := by
  rw [feedbackTriples, Tab.get_of, Nat.add_right_comm 4 _ 2, Nat.add_right_comm 4 _ 4]

theorem GState.watched_iff (st : GState) : st.watched = true ↔ st ≠ .idle ∧ st ≠ .faulted := by
  cases st <;> simp [GState.watched]

/-- What a frame makes of one monitor of a group, and whether that monitor trips (R122). -/
def State.monitorAt (s : State) (g : GroupIx) (bs : List Byte) (l : LaneIx) (k : ChannelKind) : MonRec × Bool :=
  ((s.group g).chans.get l).evalKind (((s.group g).chans.get l).limits s.limitSets) ((feedbackTriples bs).get l) k

theorem State.heard_mon {s : State} {g : GroupIx} (bs : List Byte) (h : (s.group g).state.watched = true) (l : LaneIx)
    (k : ChannelKind) : ((s.heard g bs).chans.get l).mon k = (s.monitorAt g bs l k).1 := by
  simp only [State.heard, Group.acceptEcho_state, h, if_true, Group.evaluate_chans, Tab.get_mapIx,
    Group.acceptEcho_chans]
  cases k <;> rfl

theorem State.channelTrips_accepted {s : State} {bs : List Byte} {g : GroupIx} (h : s.judgeFeedback bs = .accepted g)
    (hw : (s.group g).state.watched = true) (l : LaneIx) (k : ChannelKind) :
    s.channelTrips l k bs = (s.monitorAt g bs l k).2 := by
  simp [State.channelTrips, h, hw, State.monitorAt]

/-- The event of a channel monitor that trips (R122). -/
def State.monitorEvent (s : State) (g : GroupIx) (bs : List Byte) (l : LaneIx) (k : ChannelKind) : MonEvent :=
  let m := (((s.group g).chans.get l).limits s.limitSets).mon k
  { kind := kindOf k, lane := some l, mode := m.mode, action := some m.action,
    observed := some (((feedbackTriples bs).get l).value k) }

/-- A monitor that trips has its event among the frame's (R116). -/
theorem State.monitorEvent_mem {s : State} {g : GroupIx} {bs : List Byte} {l : LaneIx} {k : ChannelKind}
    (hw : (s.group g).state.watched = true) (h : (s.monitorAt g bs l k).2 = true) :
    s.monitorEvent g bs l k ∈ s.feedbackEvents g bs := by
  have hk : k ∈ channelKinds := by cases k <;> decide
  rw [State.feedbackEvents, if_pos hw]
  refine List.mem_flatMap.mpr ⟨l, mem_lanes l, List.mem_flatMap.mpr ⟨k, hk, ?_⟩⟩
  rw [Channel.eventOf, if_pos (by exact h)]
  exact List.mem_singleton_self _

/-! ## What the trips leave -/

/-- Short of FAULTED no trip moves a monitor's record (R123). -/
theorem Group.tripAll_mon (x : Group) (evs : List MonEvent) (l : LaneIx) (k : ChannelKind) :
    (x.tripAll evs).state ≠ .faulted → ((x.tripAll evs).chans.get l).mon k = (x.chans.get l).mon k := by
  have frozen (y : Group) : (y.freeze.chans.get l).mon k = (y.chans.get l).mon k := by
    rw [Group.freeze_chans, Tab.get_map]
    cases k <;> rfl
  refine Group.tripAll_keeps
    (law := fun t => t.state ≠ .faulted → (t.chans.get l).mon k = (x.chans.get l).mon k)
    (fun _ ev => Group.trip_keeps
      (law := fun t => t.state ≠ .faulted → (t.chans.get l).mon k = (x.chans.get l).mon k)
      (fun _ _ _ h => h) (fun _ _ _ h => h) (fun _ _ _ _ h => h) (fun y hs h _ => h fun hf => ?_)
      (fun _ _ _ hf => absurd rfl hf) (fun y hs h _ => (frozen y).trans (h fun hf => ?_))
      (fun y hs h _ => (frozen y).trans (h fun hf => ?_)) ev) evs fun _ => rfl
  · simp [hf, GState.entersTarget] at hs
  · simp [hf, GState.live] at hs
  · simp [hf, GState.live] at hs

/-- An action trip's action moves neither the end target nor the first-trip record (R144). -/
theorem Group.applyAction_episode {x : Group} (a : Option Action) (r : Bool) (h : x.target ≠ some .idle) :
    (x.applyAction a r).target = x.target ∧ (x.applyAction a r).firstTrip = x.firstTrip := by
  unfold Group.applyAction
  split
  · exact ⟨rfl, rfl⟩
  · by_cases hs : strength x.action < strength a
    · simp only [hs, decide_true, if_true]
      split
      · exact ⟨rfl, rfl⟩
      · exact Group.actBy_keeps (law := fun t => t.target = x.target ∧ t.firstTrip = x.firstTrip) a h
          (fun _ => ⟨rfl, rfl⟩) (fun _ => ⟨rfl, rfl⟩) (fun _ => ⟨rfl, rfl⟩) (fun _ => ⟨rfl, rfl⟩) ⟨rfl, rfl⟩
    · simp only [hs, decide_false, Bool.false_eq_true, if_false]
      split <;> exact ⟨rfl, rfl⟩

/-- An action trip leaves an end target and a first-trip record (R141, R143). -/
theorem Group.actionTrip_episode (x : Group) (ev : MonEvent) :
    (x.actionTrip ev).target ≠ none ∧ (x.actionTrip ev).firstTrip ≠ none := by
  obtain ⟨ht, hf⟩ := Group.applyAction_episode
    (x := { (x.recordTrip ev (x.retryable ev.mode)).openEpisode with
      target := some (targetAfter x.target (x.retryable ev.mode)) })
    ev.action (x.retryable ev.mode) (by simp [targetAfter_ne_idle])
  have hopen : (x.recordTrip ev (x.retryable ev.mode)).openEpisode.firstTrip ≠ none := by
    unfold Group.openEpisode
    split <;> exact Option.some_ne_none _
  exact ⟨ht.trans_ne (Option.some_ne_none _), hf.trans_ne hopen⟩

/-- A kind latched in class ACTION, with the records of the episode that its trip is part of. -/
abbrev Group.Tripped (k : Kind) (t : Group) : Prop :=
  t.classOf k = some .action ∧ t.firstTrip ≠ none ∧ t.target ≠ none

theorem Group.trip_tripped {x : Group} {ev : MonEvent} (h : x.state ≠ .idle)
    (hm : ev.mode = .latch ∨ ev.mode = .retry) : (x.trip ev).Tripped ev.kind := by
  refine ⟨Group.trip_action h hm, ?_⟩
  rw [(Group.trip_active h).2 hm]
  exact (x.actionTrip_episode ev).symm

theorem Group.trip_keeps_tripped {x : Group} {k : Kind} (ev : MonEvent) (h : x.Tripped k) : (x.trip ev).Tripped k := by
  obtain ⟨hclass, hrecord⟩ := h
  refine ⟨Group.trip_keeps_action ev hclass, ?_⟩
  rcases x.trip_cases ev with ht | ht | ht <;> rw [ht]
  · exact hrecord
  · exact hrecord
  · exact (x.actionTrip_episode ev).symm

/-- What a frame leaves latched where a monitor trips, by the monitor's mode (R140, R142, R143). -/
theorem State.feedback_latches {s : State} {bs : List Byte} {g : GroupIx} {l : LaneIx} {k : ChannelKind}
    (h : s.judgeFeedback bs = .accepted g) (hw : (s.group g).state.watched = true)
    (ht : (s.monitorAt g bs l k).2 = true) {m : LimitMon}
    (hm : m = (((s.group g).chans.get l).limits s.limitSets).mon k) :
    (m.mode = .report → ((s.feedback bs).group g).classOf (kindOf k) ≠ none)
      ∧ (m.mode = .latch ∨ m.mode = .retry → ((s.feedback bs).group g).Tripped (kindOf k)) := by
  have hmem := State.monitorEvent_mem hw ht
  have hidle : (s.heard g bs).state ≠ .idle := by
    rw [State.heard_state]
    exact ((GState.watched_iff _).mp hw).1
  subst hm
  rw [State.feedback_group h]
  exact ⟨fun hr => Group.tripAll_report hidle hmem hr, fun ha => Group.tripAll_mem
    (law := Group.Tripped (kindOf k)) (fun _ hy => Group.trip_tripped hy ha) (fun _ e => Group.trip_keeps_tripped e)
    hidle hmem⟩

/-! ## The statement -/

/-- Settles O54: one monitor's evaluation, carried through the trips of the frame. -/
theorem channelMonitorsTripAtTheirCount : Obligations.ChannelMonitorsTripAtTheirCount := by
  intro s bs g l k ls m r v present trips count hj hidle hfault hls hm hr hv hpresent hcount htrips
  have hw : (s.group g).state.watched = true := (GState.watched_iff _).mpr ⟨hidle, hfault⟩
  have hset : m = (((s.group g).chans.get l).limits s.limitSets).mon k := by rw [hm, hls]; rfl
  have hrec : r = ((s.group g).chans.get l).mon k := hr
  have hvalue : v = ((feedbackTriples bs).get l).value k := by
    rw [hv, feedbackTriples_get]
    cases k <;> rfl
  have hp : present = condPresent ls ((feedbackTriples bs).get l) k := by
    rw [Bool.eq_iff_iff, hpresent, hvalue]
    cases k with
    | position => exact (condPresent_position ls ((feedbackTriples bs).get l)).symm
    | force => exact (condPresent_force ls ((feedbackTriples bs).get l)).symm
    | error => exact (condPresent_error ls ((feedbackTriples bs).get l)).symm
  have hmon : s.monitorAt g bs l k = r.evaluate m present := by rw [hrec, hset, hp, hls]; rfl
  have ht : trips = (r.evaluate m present).2 := by
    rw [Bool.eq_iff_iff, htrips, MonRec.evaluate_trips, hcount]
    rfl
  have hiff : s.channelTrips l k bs = true ↔ trips = true := by rw [State.channelTrips_accepted hj hw, hmon, ht]
  obtain ⟨harises, helse⟩ := whenArises_row (t := s.feedback bs) (s := s) hiff id
  refine ⟨s.feedback bs, exec_feedbackFrame s bs, fun _ hlive => ?_, fun htrue => ?_, fun hfalse => ?_⟩
  · have hkept : (((s.feedback bs).group g).chans.get l).mon k = (r.evaluate m present).1 := by
      rw [State.feedback_group hj] at hlive ⊢
      rw [Group.tripAll_mon _ _ l k hlive, State.heard_mon bs hw, hmon]
    refine hkept.trans ?_
    split
    · next hoff => rw [MonRec.evaluate_off r present hoff]
    · next hon =>
      rw [MonRec.evaluate_on r present hon, hcount, ht]
      rfl
  · have hon : m.mode ≠ .off := (htrips.mp htrue).1
    obtain ⟨hreport, haction⟩ := State.feedback_latches hj hw (by rw [hmon, ← ht, htrue]) hset
    refine ⟨(harises htrue).1, hreport, fun hmode => haction ?_⟩
    revert hon hmode
    cases m.mode <;> simp
  · exact helse (by simp [hfalse])

end Sys2Proof.Machine
end

section
/-! The channel monitors at rest (R123): every move leaves their records cleared in IDLE and FAULTED. A move into
either state clears them, an evaluation comes in watched states alone, and no other move writes a record. -/

namespace Sys2Proof.Machine

/-! ## A channel -/

/-- A channel's three monitor records at their cleared values (R120, R123). -/
abbrev Channel.Cleared (c : Channel) : Prop :=
  c.position = clearedMonRec ∧ c.force = clearedMonRec ∧ c.error = clearedMonRec

theorem Channel.clearMonitors_cleared (c : Channel) : c.clearMonitors.Cleared := ⟨rfl, rfl, rfl⟩

theorem Channel.takeSlot_cleared {c : Channel} (o : Option Du) (hc : c.Cleared) : (c.takeSlot o).Cleared := by
  cases o <;> exact hc

theorem Channel.takeTrim_cleared {c : Channel} (o : Option Du) (hc : c.Cleared) : (c.takeTrim o).Cleared := by
  cases o <;> exact hc

/-! ## A group -/

/-- Outside IDLE and FAULTED the law asks nothing. -/
theorem Group.MonitorLaw.of_watched {x : Group} (h : x.state.watched = true) : x.MonitorLaw := by
  intro hs
  rcases hs with hs | hs <;> simp [hs, GState.watched] at h

/-- A group whose state stays keeps the law when its cleared channels stay cleared. -/
theorem Group.MonitorLaw.of_chans {x y : Group} (hx : x.MonitorLaw) (hs : y.state = x.state)
    (hc : ∀ l : LaneIx, (x.chans.get l).Cleared → (y.chans.get l).Cleared) : y.MonitorLaw :=
  fun h l => hc l (hx (hs ▸ h) l)

theorem Group.enterIdle_monitors (x : Group) : x.enterIdle.MonitorLaw := by
  intro _ l
  simp

theorem Group.enterFaulted_monitors (x : Group) : x.enterFaulted.MonitorLaw := by
  intro _ l
  simp

theorem Group.take_monitors {x : Group} (hx : x.MonitorLaw) : x.take.1.MonitorLaw := by
  rcases hq : x.queue with _ | ⟨e, rest⟩
  · rw [Group.take_nil hq]
    exact hx
  · rw [Group.take_cons hq]
    exact hx.of_chans rfl fun l hl => by rw [Tab.get_mapIx]; exact Channel.takeSlot_cleared _ hl

theorem Group.skip_monitors {x : Group} (hx : x.MonitorLaw) : x.skip.MonitorLaw := by
  rcases hq : x.queue with _ | ⟨e, rest⟩
  · rw [Group.skip_nil hq]
    exact hx
  · rw [Group.skip_cons hq]
    exact hx

theorem Group.generate_monitors {x : Group} (hx : x.MonitorLaw) : x.generate.MonitorLaw :=
  hx.of_chans rfl fun l hl => by rw [Group.generate, Tab.get_mapIx]; exact hl

theorem Group.condition_monitors {x : Group} (hx : x.MonitorLaw) : x.condition.MonitorLaw :=
  hx.of_chans rfl fun _ hl =>
    Group.outputs_keeps (law := Channel.Cleared) (fun _ => hl) (fun _ => hl) hl hl

/-- The completions of step 6 rest in IDLE and FAULTED alone. -/
theorem Group.Completion.keeps_monitors {x y : Group} {r : GenRun} {w i : Bool} (h : x.Completion r w i y)
    (hx : x.MonitorLaw) : y.MonitorLaw := by
  cases h with
  | stay => exact hx
  | burst | ended | risen | faded => exact .of_watched rfl
  | parked => exact Group.enterTarget_keeps x.enterIdle_monitors (.of_watched rfl) x.enterFaulted_monitors hx
  | ticked => exact hx
  | resumed => exact Group.resumeRun_keeps (.of_watched rfl) (.of_watched rfl)

/-- Every move keeps the monitor records cleared at rest. -/
theorem Group.Move.keeps_monitors {x y : Group} (h : x.Move y) (hx : x.MonitorLaw) : y.MonitorLaw := by
  cases h with
  | fresh => decide
  | obtain =>
    exact Group.obtain_keeps (Group.take_monitors hx) (Group.generate_monitors hx) (Group.skip_monitors hx) hx
  | condition => exact Group.condition_monitors hx
  | countSince => rcases x.countSince_cases with ⟨h, -⟩ | ⟨h, -⟩ <;> rw [h] <;> exact hx
  | complete r w i => exact (x.complete_completion r w i).keeps_monitors hx
  | decimate => rcases x.decimate_cases with ⟨-, h⟩ | ⟨-, -, h⟩ | ⟨-, -, h⟩ <;> rw [h] <;> exact hx
  | trip ev hev =>
    exact Group.trip_keeps (law := Group.MonitorLaw) (fun _ _ _ h => h) (fun _ _ _ h => h) (fun _ _ _ _ h => h)
      (fun _ _ _ => .of_watched rfl) (fun z _ _ => z.enterFaulted_monitors) (fun _ _ _ => .of_watched rfl)
      (fun _ _ _ => .of_watched rfl) ev hx
  | interlockTrip =>
    exact Group.interlockTrip_keeps (law := Group.MonitorLaw) (fun _ _ _ h => h) (fun _ _ _ _ h => h)
      (fun z _ => z.enterFaulted_monitors) hx
  | evaluate sets ts h => exact .of_watched h
  | arrive i seq slots h =>
    exact Group.arrive_keeps (law := Group.MonitorLaw) (fun _ _ h => h) (fun _ h => h) (fun _ _ h => h)
      (fun _ _ h => h) (fun _ h => h) (fun _ h => h) (fun _ _ h => h) seq slots hx
  | trims slots =>
    exact hx.of_chans rfl fun l hl => by
      rw [Group.takeTrims_chans, Tab.get_mapIx]
      exact Channel.takeTrim_cleared _ hl
  | profile l prof hs hp hr =>
    exact hx.of_chans rfl fun j hj => Group.modChan_keeps (law := Channel.Cleared) l id hj
  | clearNaming i =>
    exact hx.of_chans rfl fun l hl =>
      Group.clearNaming_keeps (law := Channel.Cleared) i (Channel.clearMonitors_cleared _) hl
  | disarm hs => exact x.enterIdle_monitors
  | start hs => exact .of_watched rfl
  | stop =>
    rcases x.stopRun_cases with ⟨-, h⟩ | ⟨-, h⟩ <;> rw [h]
    · exact .of_watched rfl
    · exact hx
  | abort y h =>
    rcases Group.abortRun_cases h with ⟨-, rfl⟩ | ⟨-, rfl⟩ | ⟨-, rfl⟩ | ⟨-, rfl⟩
    · exact .of_watched rfl
    · exact x.enterIdle_monitors
    · exact x.enterFaulted_monitors
    · exact hx
  | genStart hs => exact .of_watched rfl
  | clearFaults w i =>
    exact Group.clearFaults_keeps (law := Group.MonitorLaw) w i (fun _ h => h) (fun z _ => z.enterIdle_monitors)
      (fun _ _ => .of_watched rfl) hx
  | clearClamps l =>
    exact hx.of_chans rfl fun j hj => Group.modChan_keeps (law := Channel.Cleared) l id hj
  | _ => exact hx

/-- Settles O12: every move keeps the records cleared at rest, and ARM leaves a group outside IDLE and FAULTED. -/
theorem monitorRecordsStayClearedAtRest : Obligations.MonitorRecordsStayClearedAtRest :=
  keptByEveryStep_of_event (fun _ _ h => h) fun _ _ he hs =>
    he.keepsEachGroup (fun _ _ hm => hm.keeps_monitors) (fun _ _ _ _ => .of_watched rfl) hs

end Sys2Proof.Machine
end

section
/-! The supervision watchdog (R129, R131 to R136): what reloads it, what a tick does to it, and what its expiry
raises. -/

namespace Sys2Proof.Machine

/-! ## A tick (R132) -/

theorem Watchdog.expiresAt_iff (w : Watchdog) (u : TickUnit) :
    w.expiresAt u = true ↔ (w.state = .running ∧ w.unit = u) ∧ w.remaining ≤ 1 := by
  simp [Watchdog.expiresAt, Nat.sub_eq_zero_iff_le]

/-- The tick that brings the count of a RUNNING watchdog to 0 expires it. -/
theorem State.tick_expires {s : State} {u : TickUnit} (hr : s.watchdog.state = .running) (hu : s.watchdog.unit = u)
    (hn : s.watchdog.remaining ≤ 1) : s.tick u = s.expireWatchdog := by
  rw [State.tick, if_pos ((s.watchdog.expiresAt_iff u).mpr ⟨⟨hr, hu⟩, hn⟩)]

/-- An earlier tick of the unit lowers the count. -/
theorem State.tick_lowers {s : State} {u : TickUnit} (hr : s.watchdog.state = .running) (hu : s.watchdog.unit = u)
    (hn : 2 ≤ s.watchdog.remaining) :
    s.tick u = { s with watchdog := { s.watchdog with remaining := s.watchdog.remaining - 1 } } := by
  rw [State.tick, if_neg, if_pos ⟨hr, hu⟩]
  rw [Watchdog.expiresAt_iff]
  omega

/-- A tick of the other unit, or of a watchdog that is not RUNNING, changes nothing. -/
theorem State.tick_other {s : State} {u : TickUnit} (h : ¬ (s.watchdog.state = .running ∧ s.watchdog.unit = u)) :
    s.tick u = s := by
  rw [State.tick, if_neg, if_neg h]
  rw [Watchdog.expiresAt_iff]
  exact fun he => h he.1

/-! ## The law (R131 to R136) -/

/-- The law reads the watchdog alone. -/
theorem State.WatchdogLaw.of_same {s t : State} (hs : s.WatchdogLaw) (h : t.watchdog = s.watchdog) :
    t.WatchdogLaw := by
  rw [State.WatchdogLaw, h]
  exact hs

/-- A watchdog set to a period, or reloaded to it, is DISABLED for a period of 0 and RUNNING for any other. -/
theorem State.WatchdogLaw.of_loaded {t : State} {n : Nat} {u : TickUnit} (hn : n ≤ 255) (h : t.watchdog =
    { period := n, unit := u, remaining := n, state := if n = 0 then .disabled else .running }) :
    t.WatchdogLaw := by
  rw [State.WatchdogLaw, h]
  refine ⟨hn, ?_⟩
  by_cases h0 : n = 0
  · simp only [if_pos h0]
    exact ⟨h0, h0⟩
  · simp only [if_neg h0]
    exact ⟨Nat.one_le_iff_ne_zero.mpr h0, Nat.le_refl n⟩

theorem State.WatchdogLaw.of_default {t : State} (b : Bool) (h : t.watchdog = defaultWatchdog b) :
    t.WatchdogLaw := by
  cases b with
  | false => exact .of_loaded (n := 0) (u := .ms10) (by decide) h
  | true => exact .of_loaded (n := 50) (u := .ms10) (by decide) h

/-- The count of a RUNNING watchdog lies between 1 and its period. -/
theorem State.WatchdogLaw.running {s : State} (hs : s.WatchdogLaw) (hr : s.watchdog.state = .running) :
    s.watchdog.period ≤ 255 ∧ 1 ≤ s.watchdog.remaining ∧ s.watchdog.remaining ≤ s.watchdog.period := by
  simpa only [State.WatchdogLaw, hr] using hs

theorem State.expireWatchdog_law {s : State} (hs : s.WatchdogLaw) (hr : s.watchdog.state = .running) :
    s.expireWatchdog.WatchdogLaw := by
  obtain ⟨hp, h1, hle⟩ := hs.running hr
  exact ⟨hp, Nat.le_trans h1 hle, rfl⟩

theorem State.tick_watchdogLaw {s : State} (u : TickUnit) (hs : s.WatchdogLaw) : (s.tick u).WatchdogLaw := by
  by_cases h : s.watchdog.state = .running ∧ s.watchdog.unit = u
  · obtain ⟨hr, hu⟩ := h
    by_cases hn : s.watchdog.remaining ≤ 1
    · rw [State.tick_expires hr hu hn]
      exact State.expireWatchdog_law hs hr
    · rw [State.tick_lowers hr hu (by omega)]
      obtain ⟨hp, -, hle⟩ := hs.running hr
      simp only [State.WatchdogLaw, hr]
      omega
  · rw [State.tick_other h]
    exact hs

/-- Every taken request keeps the watchdog's law. -/
theorem State.Effect.keeps_watchdog {s t : State} {p : Port} (h : s.Effect p t) (hs : s.WatchdogLaw) :
    t.WatchdogLaw := by
  cases h with
  | reload => exact .of_loaded hs.1 rfl
  | setWatchdog n u hn => exact .of_loaded hn rfl
  | expire hr => exact State.expireWatchdog_law hs hr
  | _ => exact hs.of_same (by simp)

/-- Every event keeps the watchdog's law. -/
theorem State.Event.keeps_watchdog {s t : State} (h : s.Event t) (hs : s.WatchdogLaw) : t.WatchdogLaw := by
  cases h with
  | powerOn pins => exact .of_default pins.straps.wddef rfl
  | frame p bs hr =>
    rw [(State.ingress_fate (s.modPort p PortState.countReceived) p bs).frame]
    exact hs.of_same (by simp)
  | refused p q st hn => exact hs.of_same (by simp)
  | taken k p q a pl u hn hk hv =>
    have hd : (s.dequeue p).WatchdogLaw := hs.of_same (by simp)
    exact ((judge_effect k hv).keeps_watchdog hd).of_same (by simp)
  | feedback bs =>
    rw [State.feedback_frame]
    exact hs
  | tick u => exact State.tick_watchdogLaw u hs
  | sendComplete p levels =>
    rcases s.sendComplete_cases p levels with h | ⟨u, k, h⟩
    · rw [h]
      exact hs
    · rw [h]
      exact .of_default _ rfl
  | _ => exact hs.of_same (by simp)

/-- Settles O19: every event keeps the watchdog's state and counts consistent. -/
theorem watchdogLawIsKept : Obligations.WatchdogLawIsKept :=
  keptByEveryStep_of_event (fun _ _ h => h) fun _ _ he => he.keeps_watchdog

/-! ## KEEPALIVE and SET_WATCHDOG (R133, R134) -/

@[simp] theorem tickUnitOf_code (u : TickUnit) : tickUnitOf (unitCode u) = some u := by cases u <;> rfl

theorem tickUnitOf_none {n : Nat} (h : 2 ≤ n) : tickUnitOf n = none := by
  match n, h with
  | _ + 2, _ => rfl

section Asked

variable {s : State} {p : Port} {q : Request}

theorem keepalive_asks (h : s.Asks p q .supervision 2 []) :
    exec .keepalive s =
      .next (s.carryOut p q (.take false [] { s.dequeue p with watchdog := s.watchdog.reload })) := by
  have hx : exec .keepalive s = .next (s.carryOut p q (judgeKeepalive p q (s.dequeue p))) :=
    exec_asks .keepalive h rfl rfl
  rw [hx, judgeKeepalive, State.dequeue_watchdog]

theorem setWatchdog_asks {b u : Byte} (h : s.Asks p q .fault 4 [b, u]) :
    exec .setWatchdog s = .next (s.carryOut p q ((tickUnitOf u.toNat).elim (.refuse .badValue) fun tu =>
      .take false [] { s.dequeue p with watchdog :=
        { period := b.toNat, unit := tu, remaining := b.toNat,
          state := if b = 0 then .disabled else .running } })) := by
  have hx : exec .setWatchdog s = .next (s.carryOut p q (judgeSetWatchdog p q (s.dequeue p))) :=
    exec_asks .setWatchdog h rfl rfl
  have h0 : natAt8 q.operands 0 = b.toNat := by rw [h.2.2.2]; rfl
  have h1 : natAt8 q.operands 1 = u.toNat := by rw [h.2.2.2]; rfl
  have hz : b.toNat = 0 ↔ b = 0 := BitVec.toNat_inj (y := 0)
  rw [hx, judgeSetWatchdog, h0, h1]
  simp only [hz]
  cases tickUnitOf u.toNat <;> rfl

theorem forceWatchdog_asks (h : s.Asks p q .fault 5 []) :
    exec .forceWatchdog s = .next (s.carryOut p q
      (if s.watchdog.state = .running then .take false [] (s.dequeue p).expireWatchdog
      else .refuse .wrongState)) := by
  have hx : exec .forceWatchdog s = .next (s.carryOut p q (judgeForceWatchdog p q (s.dequeue p))) :=
    exec_asks .forceWatchdog h rfl rfl
  rw [hx, judgeForceWatchdog, State.dequeue_watchdog]

end Asked

/-- Settles O30: each request by what it reads and leaves of the watchdog. -/
theorem watchdogRequestsReload : Obligations.WatchdogRequestsReload := by
  intro s p q
  refine ⟨keepalive_asks, fun b u h => ?_⟩
  rw [setWatchdog_asks h]
  refine ⟨fun tu hu => ?_, fun hu => ?_⟩
  · rw [← hu, tickUnitOf_code, Option.elim_some]
  · rw [tickUnitOf_none hu, Option.elim_none]

/-! ## The expiry (R129, R135) -/

/-- The row WATCHDOG_EXPIRY is the tick of the watchdog's unit that expires it. -/
theorem exec_watchdogExpiry {s : State} (hr : s.watchdog.state = .running) (hn : s.watchdog.remaining ≤ 1) :
    exec .watchdogExpiry s = .next s.expireWatchdog := by
  have hx : exec .watchdogExpiry s =
      whenArises (s.watchdog.expiresAt s.watchdog.unit) (s.tick s.watchdog.unit) s := rfl
  rw [hx, State.tick_expires hr rfl hn, (s.watchdog.expiresAt_iff _).mpr ⟨⟨hr, rfl⟩, hn⟩]
  rfl

/-- An expiry raises one event in a group that is watched and whose WATCHDOG mode is not OFF, and none elsewhere. -/
theorem Group.watchdogEvents_eq (x : Group) : x.watchdogEvents =
    if x.state = .idle ∨ x.state = .faulted ∨ x.cfg.watchdog.mode = .off then []
    else [{ kind := .watchdog, lane := none, mode := x.cfg.watchdog.mode, action := some x.cfg.watchdog.action,
            observed := none }] := by
  by_cases hw : x.state.watched = true
  · obtain ⟨hi, hf⟩ := (GState.watched_iff _).mp hw
    simp [Group.watchdogEvents, hw, groupEvent, hi, hf]
  · have hrest : x.state = .idle ∨ x.state = .faulted := by
      by_contra hn
      exact hw ((GState.watched_iff _).mpr (not_or.mp hn))
    rw [Group.watchdogEvents, if_neg hw, if_pos (by tauto)]

theorem State.expireWatchdog_group (s : State) (g : GroupIx) : s.expireWatchdog.group g =
    if (s.group g).state = .idle ∨ (s.group g).state = .faulted ∨ (s.group g).cfg.watchdog.mode = .off
    then s.group g
    else (s.group g).trip
      { kind := .watchdog, lane := none, mode := (s.group g).cfg.watchdog.mode,
        action := some (s.group g).cfg.watchdog.action, observed := none } := by
  have hg : s.expireWatchdog.group g = (s.group g).tripAll (s.group g).watchdogEvents := by simp [State.group]
  rw [hg, Group.watchdogEvents_eq]
  split <;> rfl

/-- Settles O31: a tick by the watchdog's state and count, FORCE_WATCHDOG by its state, and the expiry block by
block. -/
theorem watchdogExpires : Obligations.WatchdogExpires := by
  have htick (s : State) (u : TickUnit) : exec (.watchdogTick u) s = .next (s.tick u) := rfl
  refine ⟨fun s u hr hu hn => ⟨?_, exec_watchdogExpiry hr (by omega)⟩, fun s u hr hu hn => ?_, fun s u h => ?_,
    fun s p q h => ?_, fun s => ⟨rfl, s.expireWatchdog_group, rfl⟩⟩
  · rw [htick, State.tick_expires hr hu (by omega)]
  · rw [htick, State.tick_lowers hr hu hn]
  · rw [htick, State.tick_other (by tauto)]
  · rw [forceWatchdog_asks h]
    exact ⟨fun hr => by rw [if_pos hr], fun hr => by rw [if_neg hr]⟩

end Sys2Proof.Machine
end

section
/-! WRITE_LIMIT_SET (R118): the set that is stored, when it differs from the one carried, and the monitors that the
write clears. -/

namespace Sys2Proof.Machine

/-! ## One monitor of the set -/

section Monitor

variable {bs : List Byte} {i : Nat} {m : Mode} {a : Action}

theorem limitMonAt_codes (hm : m.code = natAt8 bs (i + 1)) (ha : a.code = natAt8 bs (i + 2)) :
    limitMonAt bs i = some { deglitch := max 1 (natAt8 bs i), mode := m,
                             action := if m = .retry ∧ a = .hold then .park else a } := by
  rw [limitMonAt, treatmentAt_codes hm ha, Treatment.stored, storedAction_eq]

theorem limitMonAt_none (h : 4 ≤ natAt8 bs (i + 1) ∨ 3 ≤ natAt8 bs (i + 2)) : limitMonAt bs i = none := by
  rw [limitMonAt, treatmentAt_none h]

/-- Storing a monitor alters it for a deglitch count of 0 and for RETRY with HOLD (R118, step 3). -/
theorem limitMonAltered_iff (hm : m.code = natAt8 bs (i + 1)) (ha : a.code = natAt8 bs (i + 2)) :
    limitMonAltered bs i = true ↔ natAt8 bs i = 0 ∨ m = .retry ∧ a = .hold := by
  have hretry : m.code = 1 ↔ m = .retry := by cases m <;> decide
  have hhold : a.code = 1 ↔ a = .hold := by cases a <;> decide
  simp [limitMonAltered, ← hm, ← ha, hretry, hhold]

end Monitor

/-! ## The set -/

theorem limitSetOf_none {bs : List Byte} (h : limitMonAt bs 5 = none ∨ limitMonAt bs 10 = none
    ∨ limitMonAt bs 15 = none ∨ (wordAt bs 3).toInt < (wordAt bs 1).toInt) : limitSetOf bs = none := by
  unfold limitSetOf
  split
  · next hp hf he =>
    rw [hp, hf, he] at h
    rw [if_pos (by simpa using h)]
  · rfl

theorem limitSetOf_some {bs : List Byte} {pos force err : LimitMon} (hp : limitMonAt bs 5 = some pos)
    (hf : limitMonAt bs 10 = some force) (he : limitMonAt bs 15 = some err)
    (hle : (wordAt bs 1).toInt ≤ (wordAt bs 3).toInt) : limitSetOf bs =
      some { posLo := wordAt bs 1, posHi := wordAt bs 3, forceMax := nonNegative (wordAt bs 8),
             errMax := nonNegative (wordAt bs 13), position := pos, force := force, error := err } := by
  simp only [limitSetOf, hp, hf, he]
  rw [if_neg (Int.not_lt.mpr hle)]

theorem nonNegative_eq (w : Du) : nonNegative w = (max 0 w.toInt).toNat := by
  unfold nonNegative
  omega

/-- The set stored for known codes (R118). -/
theorem limitSetOf_codes {bs : List Byte} {u₁ u₂ u₃ : Mode} {v₁ v₂ v₃ : Action} (hu₁ : u₁.code = natAt8 bs 6)
    (hu₂ : u₂.code = natAt8 bs 11) (hu₃ : u₃.code = natAt8 bs 16) (hv₁ : v₁.code = natAt8 bs 7)
    (hv₂ : v₂.code = natAt8 bs 12) (hv₃ : v₃.code = natAt8 bs 17)
    (hle : (wordAt bs 1).toInt ≤ (wordAt bs 3).toInt) : limitSetOf bs =
      some { posLo := wordAt bs 1, posHi := wordAt bs 3, forceMax := (max 0 (wordAt bs 8).toInt).toNat,
             errMax := (max 0 (wordAt bs 13).toInt).toNat,
             position := { deglitch := max 1 (natAt8 bs 5), mode := u₁,
                           action := if u₁ = .retry ∧ v₁ = .hold then .park else v₁ },
             force := { deglitch := max 1 (natAt8 bs 10), mode := u₂,
                        action := if u₂ = .retry ∧ v₂ = .hold then .park else v₂ },
             error := { deglitch := max 1 (natAt8 bs 15), mode := u₃,
                        action := if u₃ = .retry ∧ v₃ = .hold then .park else v₃ } } := by
  rw [limitSetOf_some (limitMonAt_codes hu₁ hv₁) (limitMonAt_codes hu₂ hv₂) (limitMonAt_codes hu₃ hv₃) hle,
    nonNegative_eq, nonNegative_eq]

/-- When the set stored differs from the set carried (R118, step 3). -/
theorem limitSetAltered_iff {bs : List Byte} {u₁ u₂ u₃ : Mode} {v₁ v₂ v₃ : Action} (hu₁ : u₁.code = natAt8 bs 6)
    (hu₂ : u₂.code = natAt8 bs 11) (hu₃ : u₃.code = natAt8 bs 16) (hv₁ : v₁.code = natAt8 bs 7)
    (hv₂ : v₂.code = natAt8 bs 12) (hv₃ : v₃.code = natAt8 bs 17) : limitSetAltered bs = true ↔
      byteAt bs 5 = 0 ∨ byteAt bs 10 = 0 ∨ byteAt bs 15 = 0 ∨ (wordAt bs 8).toInt < 0 ∨ (wordAt bs 13).toInt < 0
        ∨ u₁ = .retry ∧ v₁ = .hold ∨ u₂ = .retry ∧ v₂ = .hold ∨ u₃ = .retry ∧ v₃ = .hold := by
  have hz (i : Nat) : natAt8 bs i = 0 ↔ byteAt bs i = 0 := BitVec.toNat_inj (y := 0)
  simp only [limitSetAltered, Bool.or_eq_true, decide_eq_true_eq, limitMonAltered_iff (i := 5) hu₁ hv₁,
    limitMonAltered_iff (i := 10) hu₂ hv₂, limitMonAltered_iff (i := 15) hu₃ hv₃, hz]
  tauto

/-! ## The request -/

section Asked

variable {s : State} {p : Port} {q : Request} {i : SetIx} {ops : List Byte}

theorem writeLimitSet_asks (h : s.Asks p q .setup 3 (BitVec.ofNat 8 i.val :: ops)) (hl : ops.length = 17) :
    exec .writeLimitSet s = .next (s.carryOut p q ((limitSetOf (BitVec.ofNat 8 i.val :: ops)).elim
      (.refuse .badValue) fun ls =>
        .take (limitSetAltered (BitVec.ofNat 8 i.val :: ops)) [] { s.dequeue p with
          limitSets := s.limitSets.set i ls
          groups := s.groups.map fun (g : Group) => g.clearNaming i })) := by
  have hx : exec .writeLimitSet s = .next (s.carryOut p q (judgeWriteLimitSet p q (s.dequeue p))) :=
    exec_asks .writeLimitSet h rfl (by rw [List.length_cons, hl]; rfl)
  have hi : indexOf 16 (natAt8 (BitVec.ofNat 8 i.val :: ops) 0) = some i := indexOf_ofNat i (by decide)
  rw [hx, judgeWriteLimitSet, h.2.2.2, hi]
  simp only [State.dequeue_limitSets, State.dequeue_groups]
  cases limitSetOf (BitVec.ofNat 8 i.val :: ops) <;> rfl

theorem writeLimitSet_refused (h : s.Asks p q .setup 3 (BitVec.ofNat 8 i.val :: ops)) (hl : ops.length = 17)
    (hn : limitSetOf (BitVec.ofNat 8 i.val :: ops) = none) :
    exec .writeLimitSet s = .next (s.carryOut p q (.refuse .badValue)) := by
  rw [writeLimitSet_asks h hl, hn, Option.elim_none]

theorem writeLimitSet_taken {ls : LimitSet} (h : s.Asks p q .setup 3 (BitVec.ofNat 8 i.val :: ops))
    (hl : ops.length = 17) (hls : limitSetOf (BitVec.ofNat 8 i.val :: ops) = some ls) :
    exec .writeLimitSet s =
      .next (s.carryOut p q (.take (limitSetAltered (BitVec.ofNat 8 i.val :: ops)) [] { s.dequeue p with
        limitSets := s.limitSets.set i ls
        groups := s.groups.map fun (g : Group) => g.clearNaming i })) := by
  rw [writeLimitSet_asks h hl, hls, Option.elim_some]

end Asked

/-- Settles O38: the set monitor by monitor, by its codes, and the request by what it stores. -/
theorem writeLimitSetReplacesTheSet : Obligations.WriteLimitSetReplacesTheSet := by
  intro s p q i ah al bh bl n₁ m₁ a₁ fh fl n₂ m₂ a₂ eh el n₃ m₃ a₃ h
  refine ⟨fun hbad => writeLimitSet_refused h rfl (limitSetOf_none ?_),
    fun u₁ u₂ u₃ v₁ v₂ v₃ hu₁ hu₂ hu₃ hv₁ hv₂ hv₃ hle => ⟨_, limitSetAltered_iff hu₁ hu₂ hu₃ hv₁ hv₂ hv₃,
      writeLimitSet_taken h rfl (limitSetOf_codes hu₁ hu₂ hu₃ hv₁ hv₂ hv₃ hle)⟩⟩
  rcases hbad with hm | hm | hm | ha | ha | ha | hlt
  · exact .inl (limitMonAt_none (.inl hm))
  · exact .inr (.inl (limitMonAt_none (.inl hm)))
  · exact .inr (.inr (.inl (limitMonAt_none (.inl hm))))
  · exact .inl (limitMonAt_none (.inr ha))
  · exact .inr (.inl (limitMonAt_none (.inr ha)))
  · exact .inr (.inr (.inl (limitMonAt_none (.inr ha))))
  · exact .inr (.inr (.inr hlt))

end Sys2Proof.Machine
end

section
/-! CLEAR_FAULTS (R152, R153, R175): the members it removes, and the groups it releases. -/

namespace Sys2Proof.Machine

/-! ## The removal (R152) -/

@[simp] theorem kindAt_ix (k : Kind) : kindAt k.ix = k := by cases k <;> rfl

/-- A member whose condition is present keeps its class, and any other is removed. -/
theorem Group.classOf_removeAbsent (x : Group) (w i : Bool) (k : Kind) :
    (x.removeAbsent w i).classOf k = if x.present w i k then x.classOf k else none := by
  simp [Group.classOf, Group.removeAbsent]

theorem Group.holdsAction_iff (x : Group) : x.holdsAction = true ↔ ∃ k : Kind, x.classOf k = some .action := by
  simp [Group.holdsAction, mem_kindList]

/-- An ACTION member stays exactly where one has its condition present. -/
theorem Group.holdsAction_removeAbsent (x : Group) (w i : Bool) : (x.removeAbsent w i).holdsAction = true ↔
    ∃ k : Kind, x.present w i k = true ∧ x.classOf k = some .action := by
  simp only [Group.holdsAction_iff, Group.classOf_removeAbsent]
  refine exists_congr fun k => ?_
  cases x.present w i k <;> simp

/-! ## The release (R153) -/

/-- What the entry of IDLE leaves, field by field (R16, R66, R123, R146). -/
theorem Group.enterIdle_frame (x : Group) : x.enterIdle = { x with
    state := .idle, bound := none, source := .stream, env := 0, action := none, target := none, queue := []
    tallies := { x.tallies with flushed := min (x.tallies.flushed + x.queue.length) 4294967295 }
    chans := x.chans.map fun c => { c.clearMonitors with trim := 0 } } := rfl

/-- What the entry of PARKING leaves (R18). -/
theorem Group.enterParking_frame (x : Group) : x.enterParking = { x with
    state := .parking, env := 4096, chans := x.chans.map fun c => { c with x := c.yPrev } } := rfl

section Release

variable {x : Group} {w i : Bool}

/-- With an ACTION member left, or outside FAULTED and HELD, nothing but the set moves. -/
theorem Group.clearFaults_stays (h : (x.removeAbsent w i).holdsAction = true
    ∨ x.state ≠ .faulted ∧ x.state ≠ .held) : x.clearFaults w i = x.removeAbsent w i := by
  unfold Group.clearFaults Group.release
  split
  · rfl
  · next ha =>
    obtain ⟨hf, hh⟩ := h.resolve_left ha
    split
    · next hs => exact absurd hs hf
    · next hs => exact absurd hs hh
    · rfl

/-- A FAULTED group without an ACTION member enters IDLE. -/
theorem Group.clearFaults_faulted (ha : ¬ (x.removeAbsent w i).holdsAction = true) (hs : x.state = .faulted) :
    x.clearFaults w i = { x with
      latched := (x.removeAbsent w i).latched
      state := .idle, bound := none, source := .stream, env := 0, action := none, target := none, queue := []
      tallies := { x.tallies with flushed := min (x.tallies.flushed + x.queue.length) 4294967295 }
      chans := x.chans.map fun c => { c.clearMonitors with trim := 0 } } := by
  have he : x.clearFaults w i = (x.removeAbsent w i).enterIdle := by
    simp [Group.clearFaults, Group.release, ha, hs]
  rw [he, Group.enterIdle_frame, Group.removeAbsent_tallies, Group.removeAbsent_queue]
  rfl

/-- A HELD group without an ACTION member enters PARKING toward IDLE. -/
theorem Group.clearFaults_held (ha : ¬ (x.removeAbsent w i).holdsAction = true) (hs : x.state = .held) :
    x.clearFaults w i = { x with
      latched := (x.removeAbsent w i).latched, state := .parking, env := 4096, action := some .park
      target := some .idle, chans := x.chans.map fun c => { c with x := c.yPrev } } := by
  have he : x.clearFaults w i =
      { (x.removeAbsent w i).enterParking with action := some .park, target := some .idle } := by
    simp [Group.clearFaults, Group.release, ha, hs]
  rw [he, Group.enterParking_frame]
  rfl

/-- The release moves no member of the set. -/
theorem Group.clearFaults_latched (x : Group) (w i : Bool) :
    (x.clearFaults w i).latched = (x.removeAbsent w i).latched := by
  unfold Group.clearFaults Group.release
  split
  · rfl
  · split <;> rfl

theorem Group.classOf_clearFaults (x : Group) (w i : Bool) (k : Kind) :
    (x.clearFaults w i).classOf k = if x.present w i k then x.classOf k else none := by
  rw [← Group.classOf_removeAbsent, Group.classOf, Group.clearFaults_latched, Group.classOf]

end Release

/-! ## The request (R175) -/

/-- The groups that the operand names. -/
theorem namedGroups_some {b : Byte} (h : b = 255 ∨ b.toNat < 4) :
    ∃ gs : List GroupIx, namedGroups b.toNat = some gs ∧ ∀ g : GroupIx, g ∈ gs ↔ b = 255 ∨ b.toNat = g.val := by
  by_cases hall : b = 255
  · exact ⟨groupList, by rw [hall]; rfl, fun g => by simp [hall, mem_groupList]⟩
  · have hlt : b.toNat < 4 := h.resolve_left hall
    have hne : b.toNat ≠ 255 := by omega
    refine ⟨[⟨b.toNat, hlt⟩], by simp [namedGroups, hne, indexOf, hlt], fun g => ?_⟩
    rw [List.mem_singleton, Fin.ext_iff, eq_comm]
    exact (or_iff_right hall).symm

theorem State.clearFaults_group (s : State) (gs : List GroupIx) (g : GroupIx) : (s.clearFaults gs).group g =
    if g ∈ gs then (s.group g).clearFaults s.wdExpired s.interlockOpen else s.group g := by
  simp [State.clearFaults, State.driveLines, State.group]

@[simp] theorem State.wdExpired_dequeue (s : State) (p : Port) : (s.dequeue p).wdExpired = s.wdExpired := by
  simp [State.wdExpired]

theorem clearFaults_asks {s : State} {p : Port} {q : Request} {b : Byte} {gs : List GroupIx}
    (h : s.Asks p q .fault 2 [b]) (hgs : namedGroups b.toNat = some gs) :
    exec .clearFaults s = .next (s.carryOut p q
      (.take false (clearFaultsPayload ((s.dequeue p).clearFaults gs)) ((s.dequeue p).clearFaults gs))) := by
  have hx : exec .clearFaults s = .next (s.carryOut p q (judgeClearFaults p q (s.dequeue p))) :=
    exec_asks .clearFaults h rfl rfl
  have h0 : natAt8 q.operands 0 = b.toNat := by rw [h.2.2.2]; rfl
  rw [hx, judgeClearFaults, h0, hgs]

/-- Settles O44: the set by the conditions present, then each group by its state. -/
theorem clearFaultsRemovesAbsentKinds : Obligations.ClearFaultsRemovesAbsentKinds := by
  intro s p q b h hb
  obtain ⟨gs, hgs, hmem⟩ := namedGroups_some hb
  have hgroup (g : GroupIx) : ((s.dequeue p).clearFaults gs).group g =
      if g ∈ gs then (s.group g).clearFaults s.wdExpired s.interlockOpen else s.group g := by
    simp [State.clearFaults_group]
  refine ⟨(s.dequeue p).clearFaults gs, clearFaults_asks h hgs, rfl, State.driveLines_lineLaw _,
    fun g hall hne => ?_, fun g present hnamed hpresent => ?_⟩
  · rw [hgroup, if_neg fun hg => ((hmem g).mp hg).elim hall hne]
  · have hp (k : Kind) : present k ↔ (s.group g).present s.wdExpired s.interlockOpen k = true := by
      rw [hpresent]
      cases k with
      | flow => exact decide_eq_true_iff.symm
      | _ => simp [Group.present, Group.anyCond, Channel.mon, mem_lanes, State.wdExpired]
    have hact : ((s.group g).removeAbsent s.wdExpired s.interlockOpen).holdsAction = true ↔
        ∃ k : Kind, present k ∧ (s.group g).classOf k = some .action := by
      simp only [Group.holdsAction_removeAbsent, hp]
    have hnone (hn : ∀ k : Kind, present k → (s.group g).classOf k ≠ some .action) :
        ¬ ((s.group g).removeAbsent s.wdExpired s.interlockOpen).holdsAction = true :=
      fun ha => (hact.mp ha).elim fun k hk => hn k hk.1 hk.2
    rw [hgroup, if_pos ((hmem g).mpr hnamed)]
    refine ⟨fun k => ?_, fun hstay => ?_, fun hn hs => ?_, fun hn hs => ?_⟩
    · rw [Group.classOf_clearFaults, hp]
      exact ⟨fun hk => if_pos hk, fun hk => if_neg hk⟩
    · rw [Group.clearFaults_stays (hstay.imp_left hact.mpr)]
      rfl
    · rw [Group.clearFaults_faulted (hnone hn) hs]
      rfl
    · rw [Group.clearFaults_held (hnone hn) hs]

end Sys2Proof.Machine
end

section
/-! The INTERLOCK line (R137, R138, R148): what an opening does to a group, and what it and a closing leave. -/

namespace Sys2Proof.Machine

/-- A group with the interlock trip recorded and its episode bound for FAULTED, before it enters FAULTED (R148). -/
def Group.interlocked (x : Group) : Group :=
  { (x.recordTrip interlockEvent false).openEpisode with action := some .null, target := some .faulted }

/-- An opened episode differs in its resume target alone (R143). -/
theorem Group.openEpisode_frame (x : Group) : x.openEpisode = { x with resume := x.openEpisode.resume } := by
  unfold Group.openEpisode
  split <;> rfl

/-- What the interlock trip records (R140, R141), and what it leaves for the entry of FAULTED. -/
theorem Group.interlocked_frame (x : Group) : x.interlocked =
    { x.latch .interlock .action with
      action := some .null, target := some .faulted, resume := x.interlocked.resume
      ctr := { x.ctr with trips := min (x.ctr.trips + 1) 4294967295 }
      firstTrip := some (x.firstTrip.getD
        { kind := .interlock, lane := none, outSeq := x.outSeq, observed := none, mode := .latch }) } := by
  unfold Group.interlocked
  rw [Group.openEpisode_frame]
  rfl

theorem Group.interlockTrip_idle {x : Group} (h : x.state = .idle) : x.interlockTrip = x := if_pos h

theorem Group.interlockTrip_faulted {x : Group} (h : x.state = .faulted) : x.interlockTrip = x.interlocked := by
  simp [Group.interlockTrip, h, Group.interlocked]

theorem Group.interlockTrip_active {x : Group} (hi : x.state ≠ .idle) (hf : x.state ≠ .faulted) :
    x.interlockTrip = x.interlocked.enterFaulted := by
  simp [Group.interlockTrip, hi, hf, Group.interlocked]

/-- INTERLOCK is latched as ACTION, and every other kind stands as it stood (R140). -/
theorem Group.interlocked_classOf (x : Group) (k : Kind) :
    x.interlocked.classOf k = if k = .interlock then some .action else x.classOf k := by
  have hl : x.interlocked.classOf k = (x.latch .interlock .action).classOf k := by rw [Group.interlocked_frame]; rfl
  rw [hl, Group.classOf_latch, joinClass_action]
  simp only [eq_comm]

/-- What an interlock trip leaves of the episode record of any group that is not IDLE (R148). -/
theorem Group.interlockTrip_records {x : Group} (hi : x.state ≠ .idle) :
    x.interlockTrip.state = .faulted ∧ x.interlockTrip.action = some .null
      ∧ x.interlockTrip.target = some .faulted ∧ x.interlockTrip.latched = x.interlocked.latched
      ∧ x.interlockTrip.ctr = { x.ctr with trips := min (x.ctr.trips + 1) 4294967295 }
      ∧ x.interlockTrip.firstTrip = some (x.firstTrip.getD
        { kind := .interlock, lane := none, outSeq := x.outSeq, observed := none, mode := .latch })
      ∧ x.interlockTrip.retryCount = x.retryCount := by
  by_cases hf : x.state = .faulted
  · rw [Group.interlockTrip_faulted hf, Group.interlocked_frame]
    exact ⟨hf, rfl, rfl, rfl, rfl, rfl, rfl⟩
  · rw [Group.interlockTrip_active hi hf, Group.interlocked_frame]
    exact ⟨rfl, rfl, rfl, rfl, rfl, rfl, rfl⟩

/-- Outside IDLE and FAULTED the trip enters FAULTED: E is 0, the queue flushed and the monitors cleared (R17, R66,
R123). -/
theorem Group.interlockTrip_enters {x : Group} (hi : x.state ≠ .idle) (hf : x.state ≠ .faulted) :
    x.interlockTrip.env = 0 ∧ x.interlockTrip.queue = []
      ∧ x.interlockTrip.tallies.flushed = min (x.tallies.flushed + x.queue.length) 4294967295
      ∧ ∀ l : LaneIx, (x.interlockTrip.chans.get l).Cleared := by
  rw [Group.interlockTrip_active hi hf, Group.interlocked_frame]
  exact ⟨rfl, rfl, rfl, fun l => by rw [Group.enterFaulted_chans, Tab.get_map]; exact Channel.clearMonitors_cleared _⟩

/-! ## The line -/

/-- The device with the line sensed open and every group's trip taken. -/
def State.opened (s : State) : State :=
  { s with
    pins := { s.pins with interlockOpen := true }
    interlockOpen := true
    groups := s.groups.map Group.interlockTrip }.driveLines

theorem exec_interlockOpening {s : State} (h : s.interlockOpen = false) :
    exec .interlockOpening s = .next s.opened := by
  have hx : exec .interlockOpening s = execInterlockOpening s := rfl
  rw [hx, execInterlockOpening, if_neg (by simp [h])]
  rfl

theorem State.opened_group (s : State) (g : GroupIx) : s.opened.group g = (s.group g).interlockTrip := by
  simp [State.opened, State.group]

/-- Settles O56: an opening by each group's state, and both lines' changes by the state sensed before. -/
theorem interlockFaultsEveryArmedGroup : Obligations.InterlockFaultsEveryArmedGroup := by
  intro s
  refine ⟨fun hc => ⟨s.opened, exec_interlockOpening hc, rfl, rfl, State.driveLines_lineLaw _, ?_⟩, fun ho => ?_,
    fun hc => ?_⟩
  · rintro g x rfl
    rw [State.opened_group]
    refine ⟨Group.interlockTrip_idle, fun hi => ?_⟩
    obtain ⟨hstate, haction, htarget, hlatched, hctr, hfirst, hretry⟩ := Group.interlockTrip_records hi
    have hclass (k : Kind) : (s.group g).interlockTrip.classOf k =
        if k = .interlock then some .action else (s.group g).classOf k := by
      rw [← Group.interlocked_classOf, Group.classOf, hlatched, Group.classOf]
    exact ⟨hstate, haction, htarget, by rw [hclass, if_pos rfl], fun k hk => by rw [hclass, if_neg hk], hctr, hfirst,
      hretry, fun hf => Group.interlockTrip_enters hi hf⟩
  · have hopening : exec .interlockOpening s = execInterlockOpening s := rfl
    have hclosing : exec .interlockClosing s = execInterlockClosing s := rfl
    rw [hopening, hclosing, execInterlockOpening, execInterlockClosing, if_pos ho, if_pos ho]
    exact ⟨rfl, rfl⟩
  · have hclosing : exec .interlockClosing s = execInterlockClosing s := rfl
    rw [hclosing, execInterlockClosing, if_neg (by simp [hc])]

end Sys2Proof.Machine
end

section
/-! One action trip (R139 to R145), in two stages: what the trip unit records, which puts the group in an episode, then
what the event's action does by the group's state. -/

namespace Sys2Proof.Machine

/-! ## The record (R140, R141, R143) -/

/-- A trip that finds no end target sets the resume target by the state (R143). -/
theorem Group.openEpisode_resume (x : Group) : x.openEpisode.resume =
    if x.target ≠ none then x.resume else if x.state = .armed then .armed else .fadeIn := by
  unfold Group.openEpisode
  split
  · next h => simp [h]
  · rfl

/-- A group with an action trip recorded and its episode's targets moved, before the trip's action. -/
def Group.struck (x : Group) (ev : MonEvent) (r : Bool) : Group :=
  { x.latch ev.kind .action with
    target := some (targetAfter x.target r)
    resume := if x.target ≠ none then x.resume else if x.state = .armed then .armed else .fadeIn
    ctr := { x.ctr with trips := min (x.ctr.trips + 1) 4294967295 }
    firstTrip := some (x.firstTrip.getD
      { kind := ev.kind, lane := ev.lane, outSeq := x.outSeq, observed := ev.observed,
        mode := if r then .retry else .latch }) }

/-- An action trip is its record, then its action. -/
theorem Group.actionTrip_struck (x : Group) (ev : MonEvent) : x.actionTrip ev =
    (x.struck ev (x.retryable ev.mode)).applyAction ev.action (x.retryable ev.mode) := by
  rw [Group.actionTrip, Group.openEpisode_frame, Group.openEpisode_resume]
  rfl

/-- An episode ends in RETRY_WAIT after a retryable trip that finds no other end target, and in FAULTED after any other
trip (R143). -/
theorem targetAfter_eq (old : Option EndTarget) (r : Bool) : targetAfter old r =
    if r = true ∧ (old = none ∨ old = some .retryWait) then .retryWait else .faulted := by
  rcases old with _ | t
  · cases r <;> rfl
  · cases t <;> cases r <;> rfl

/-- Only a retryable trip leaves RETRY_WAIT as the end target. -/
theorem targetAfter_retryWait {old : Option EndTarget} {r : Bool} (h : targetAfter old r = .retryWait) : r = true := by
  rw [targetAfter_eq] at h
  by_contra hr
  simp [hr] at h

theorem Group.retryable_iff (x : Group) (m : Mode) :
    x.retryable m = true ↔ m = .retry ∧ x.retryCount < x.cfg.retryLimit := by
  simp [Group.retryable]

/-- A report leaves the class a kind has, and latches a new kind as REPORT (R140). -/
theorem joinClass_report (old : Option FaultClass) : joinClass old .report = some (old.getD .report) := by
  rcases old with _ | c
  · rfl
  · cases c <;> rfl

/-! ## The action (R144) -/

/-- The state that ends an episode. -/
def EndTarget.state : EndTarget → GState
  | .idle => .idle
  | .retryWait => .retryWait
  | .faulted => .faulted

/-- The state that a stronger action leads to from each state but RETRY_WAIT, the episode ending in `final` (the table
of R144). -/
def GState.after (st : GState) (a : Option Action) (final : GState) : GState :=
  match st, a with
  | .armed, _ => final
  | .fadeIn, some .park | .run, some .park | .fadeOut, some .park => .parking
  | .fadeIn, some .hold | .run, some .hold | .fadeOut, some .hold | .parking, some .hold => .held
  | .fadeIn, some .null | .run, some .null | .fadeOut, some .null | .parking, some .null
  | .held, some .null => final
  | st, _ => st

theorem Group.enterTarget_state {y : Group} {e : EndTarget} (h : y.target = some e) :
    y.enterTarget.state = e.state := by
  unfold Group.enterTarget
  cases e <;> rw [h] <;> rfl

theorem Group.actBy_state {y : Group} (a : Option Action) {e : EndTarget} (h : y.target = some e) :
    (y.actBy a).state = y.state.after a e.state := by
  have hend := Group.enterTarget_state h
  unfold Group.actBy
  split <;> simp_all [GState.after]

/-- What an action can make a group enter, each entry with the states it comes from (R144). -/
inductive Group.Acted (y : Group) : Group → Prop
  | stay : y.Acted y
  | retryWait (ht : y.target = some .retryWait) (hs : y.state.entersTarget = true) : y.Acted y.enterRetryWait
  | faulted (hs : y.state ≠ .faulted) : y.Acted y.enterFaulted
  | parking (hs : y.state.live = true) : y.Acted y.enterParking
  | held (hs : y.state.live = true ∨ y.state = .parking) : y.Acted y.enterHeld

theorem Group.enterTarget_acted {y : Group} (h : y.target ≠ some .idle) (hs : y.state.entersTarget = true) :
    y.Acted y.enterTarget := by
  have hf : y.state ≠ .faulted := fun hf => by simp [hf, GState.entersTarget] at hs
  unfold Group.enterTarget
  split
  · contradiction
  · next ht => exact .retryWait ht hs
  · exact .faulted hf
  · exact .stay

theorem Group.actBy_acted {y : Group} (a : Option Action) (h : y.target ≠ some .idle) : y.Acted (y.actBy a) := by
  have target (hs : y.state.entersTarget = true) := Group.enterTarget_acted h hs
  have parking (hs : y.state.live = true) : y.Acted y.enterParking := .parking hs
  have held (hs : y.state.live = true ∨ y.state = .parking) : y.Acted y.enterHeld := .held hs
  have rest : y.Acted y := .stay
  unfold Group.actBy
  split <;> simp_all [GState.live, GState.entersTarget]

/-- The action in force after an action trip: the trip's own where it is stronger, but for a retryable trip in
RETRY_WAIT (R144). -/
def Group.inForce (y : Group) (a : Option Action) (r : Bool) : Option Action :=
  if strength y.action < strength a ∧ ¬ (y.state = .retryWait ∧ r = true) then a else y.action

theorem Group.applyAction_active {y : Group} (a : Option Action) (r : Bool) (h : y.state ≠ .retryWait) :
    y.applyAction a r = if strength y.action < strength a then { y with action := a }.actBy a else y := by
  by_cases hs : strength y.action < strength a <;> simp [Group.applyAction, h, hs]

theorem Group.applyAction_faults {y : Group} (a : Option Action) (h : y.state = .retryWait) :
    y.applyAction a false = { y with action := y.inForce a false }.enterFaulted := by
  by_cases hs : strength y.action < strength a
  · simp [Group.applyAction, Group.inForce, h, hs]
  · have hkept : y.inForce a false = y.action := if_neg fun hr => hs hr.1
    have hentry : y.applyAction a false = y.enterFaulted := by simp [Group.applyAction, h, hs]
    rw [hkept]
    exact hentry

/-- An action trip's action sets the action in force, then makes one of the entries (R144). -/
theorem Group.applyAction_acted {y : Group} (a : Option Action) (r : Bool) (h : y.target ≠ some .idle) :
    ({ y with action := y.inForce a r } : Group).Acted (y.applyAction a r) := by
  by_cases hw : y.state = .retryWait
  · cases r with
    | false =>
      rw [Group.applyAction_faults a hw]
      exact .faulted (by simp [hw])
    | true =>
      rw [Group.applyAction_retryWait a hw, Group.inForce, if_neg (by simp [hw])]
      exact .stay
  · rw [Group.applyAction_active a r hw]
    by_cases hs : strength y.action < strength a
    · rw [Group.inForce, if_pos ⟨hs, fun hr => hw hr.1⟩, if_pos hs]
      exact Group.actBy_acted a h
    · rw [Group.inForce, if_neg (fun hr => hs hr.1), if_neg hs]
      exact .stay

theorem Group.applyAction_state {y : Group} (a : Option Action) (r : Bool) {e : EndTarget} (h : y.target = some e) :
    (y.applyAction a r).state = if y.state = .retryWait then (if r then .retryWait else .faulted)
      else if strength y.action < strength a then y.state.after a e.state else y.state := by
  by_cases hw : y.state = .retryWait
  · rw [if_pos hw]
    cases r with
    | false => rw [Group.applyAction_faults a hw]; rfl
    | true => rw [Group.applyAction_retryWait a hw, hw]; rfl
  · rw [if_neg hw, Group.applyAction_active a r hw]
    split
    · exact Group.actBy_state (y := { y with action := a }) a h
    · rfl

/-! ## What the entries leave -/

section Acted

variable {y t : Group}

/-- No entry moves the episode's record, the latched set or the configuration. -/
theorem Group.Acted.record (h : y.Acted t) : t.action = y.action ∧ t.target = y.target ∧ t.resume = y.resume
    ∧ t.firstTrip = y.firstTrip ∧ t.ctr = y.ctr ∧ t.latched = y.latched ∧ t.cfg = y.cfg := by
  cases h <;> exact ⟨rfl, rfl, rfl, rfl, rfl, rfl, rfl⟩

/-- Into PARKING: full scale, and the last outputs frozen (R18). -/
theorem Group.Acted.into_parking (h : y.Acted t) (ht : t.state = .parking) (hy : y.state ≠ .parking) :
    t.env = 4096 ∧ ∀ l : LaneIx, (t.chans.get l).x = (y.chans.get l).yPrev := by
  cases h with
  | stay => exact absurd ht hy
  | parking => exact ⟨rfl, fun l => by simp⟩
  | retryWait | faulted | held => cases ht

/-- Into HELD: E as it stood, and the last outputs frozen (R18). -/
theorem Group.Acted.into_held (h : y.Acted t) (ht : t.state = .held) (hy : y.state ≠ .held) :
    t.env = y.env ∧ ∀ l : LaneIx, (t.chans.get l).x = (y.chans.get l).yPrev := by
  cases h with
  | stay => exact absurd ht hy
  | held => exact ⟨rfl, fun l => by simp⟩
  | retryWait | faulted | parking => cases ht

/-- Into RETRY_WAIT: one more retry counted, the timer started, and the queue kept (R145). -/
theorem Group.Acted.into_retryWait (h : y.Acted t) (ht : t.state = .retryWait) (hy : y.state ≠ .retryWait) :
    t.env = 0 ∧ t.retryCount = y.retryCount + 1 ∧ t.retryTimer = y.cfg.retryTime ∧ t.queue = y.queue := by
  cases h with
  | stay => exact absurd ht hy
  | retryWait => exact ⟨rfl, rfl, rfl, rfl⟩
  | faulted | parking | held => cases ht

/-- Into FAULTED: the queue flushed (R17, R66). -/
theorem Group.Acted.into_faulted (h : y.Acted t) (ht : t.state = .faulted) (hy : y.state ≠ .faulted) :
    t.env = 0 ∧ t.queue = [] ∧ t.tallies.flushed = min (y.tallies.flushed + y.queue.length) 4294967295 := by
  cases h with
  | stay => exact absurd ht hy
  | faulted => exact ⟨rfl, rfl, rfl⟩
  | retryWait | parking | held => cases ht

/-- RETRY_WAIT alone counts a retry (R145). -/
theorem Group.Acted.retryCount (h : y.Acted t) (ht : t.state ≠ .retryWait) : t.retryCount = y.retryCount := by
  cases h with
  | retryWait => exact absurd rfl ht
  | _ => rfl

/-- No entry leads from a state to itself. -/
theorem Group.Acted.same (h : y.Acted t) (ht : t.state = y.state) : t = y := by
  cases h with
  | stay => rfl
  | retryWait _ hs => simp [← ht, GState.entersTarget] at hs
  | faulted hs => exact absurd ht.symm hs
  | parking hs => simp [← ht, GState.live] at hs
  | held hs => simp [← ht, GState.live] at hs

end Acted

/-! ## The trip -/

/-- The group that an action trip's entry starts from: recorded, with the action in force. -/
def Group.braced (x : Group) (ev : MonEvent) (r : Bool) : Group :=
  { x.struck ev r with action := x.inForce ev.action r }

/-- An action trip is its record, the action in force, and one of the entries. -/
theorem Group.actionTrip_acted (x : Group) (ev : MonEvent) :
    (x.braced ev (x.retryable ev.mode)).Acted (x.actionTrip ev) := by
  rw [Group.actionTrip_struck]
  exact Group.applyAction_acted ev.action _ (by simp [Group.struck, targetAfter_ne_idle])

theorem Group.actionTrip_state (x : Group) (ev : MonEvent) : (x.actionTrip ev).state =
    if x.state = .retryWait then (if x.retryable ev.mode then .retryWait else .faulted)
      else if strength x.action < strength ev.action then
        x.state.after ev.action (targetAfter x.target (x.retryable ev.mode)).state
      else x.state := by
  rw [Group.actionTrip_struck]
  exact Group.applyAction_state ev.action _ rfl

/-- What a trip's record and action leave of every kind (R140). -/
theorem Group.actionTrip_classOf (x : Group) (ev : MonEvent) (k : Kind) :
    (x.actionTrip ev).classOf k = if ev.kind = k then some .action else x.classOf k := by
  rw [Group.classOf, (x.actionTrip_records ev).1, ← joinClass_action (x.classOf ev.kind)]
  exact x.classOf_latch ev.kind k .action

/-! ## The statement -/

/-- Settles O55: a discard, a report, or an action trip taken as its record and the entry that its action makes. -/
theorem tripsFollowTheirModeAndAction : Obligations.TripsFollowTheirModeAndAction := by
  rintro x ev t rfl
  refine ⟨Group.trip_idle ev, fun hi hm => ?_, fun hi hm retryable stronger final hr hs hf => ?_⟩
  · rw [(Group.trip_active hi).1 hm]
    refine ⟨rfl, fun k hk => by rw [Group.classOf_latch, if_neg hk.symm], ?_⟩
    rw [Group.classOf_latch, if_pos rfl, joinClass_report]
  · obtain rfl : retryable = x.retryable ev.mode := Bool.eq_iff_iff.mpr (hr.trans (x.retryable_iff ev.mode).symm)
    have hend : targetAfter x.target (x.retryable ev.mode) = if final = .retryWait then .retryWait else .faulted := by
      rw [targetAfter_eq, hf]
      split <;> rfl
    have hfinal : (targetAfter x.target (x.retryable ev.mode)).state = final := by
      rw [targetAfter_eq, hf]
      split <;> rfl
    obtain ⟨hbound, hsource, hexpected, hseq, hlevel, hatt, -, -, -, -, hcfg, -, hrun, -, -, -, -, hchans⟩ :=
      x.actionTrip_sameRun ev
    have hacted := x.actionTrip_acted ev
    have hclass := x.actionTrip_classOf ev
    have hstate := x.actionTrip_state ev
    rw [hfinal] at hstate
    obtain ⟨haction, htarget, hresume, hfirst, hctr, -⟩ := hacted.record
    rw [(Group.trip_active hi).2 hm]
    refine ⟨by rw [hclass, if_pos rfl], fun k hk => by rw [hclass, if_neg hk.symm], hctr, hfirst, ?_, hresume, ?_, ?_,
      fun hw hret => ?_, hacted.into_parking, hacted.into_held, hacted.into_retryWait, hacted.into_faulted,
      hacted.retryCount, fun hsame => ?_, hbound, hsource, hseq, hatt, hlevel, hexpected, hrun, hcfg, fun l => ?_⟩
    · refine htarget.trans ((congrArg some hend).trans ?_)
      split <;> rfl
    · exact haction.trans (if_congr (and_congr_left fun _ => hs.symm) rfl rfl)
    · refine hstate.trans (if_congr Iff.rfl rfl ?_)
      cases stronger with
      | false => exact if_neg fun hlt => by simpa using hs.mpr hlt
      | true => exact if_pos (hs.mp rfl)
    · have hrest : (x.actionTrip ev).state = x.state := by rw [hstate, if_pos hw, if_pos hret, hw]
      rw [hacted.same hrest, Group.braced, Group.inForce, if_neg (by simp [hw, hret])]
      rfl
    · rw [hacted.same hsame]
      exact ⟨rfl, rfl, rfl⟩
    · obtain ⟨-, hy, hd, ht, -⟩ := hchans l
      exact ⟨hy, hd, ht⟩

end Sys2Proof.Machine
end

section
/-! A group's episode (R141 to R150): which moves leave its record, and the two laws of it: the retry count within its
limit (R143), and no episode in IDLE, ARMED, FADE_IN, RUN and FADE_OUT (R146). -/

namespace Sys2Proof.Machine

/-! ## Moves that leave the episode -/

/-- The fields of a group that its episode is written in, as they were. -/
abbrev Group.SameEpisode (x y : Group) : Prop :=
  y.state = x.state ∧ y.action = x.action ∧ y.target = x.target ∧ y.latched = x.latched
    ∧ y.retryCount = x.retryCount ∧ y.cfg = x.cfg

theorem Group.SameEpisode.refl (x : Group) : x.SameEpisode x := ⟨rfl, rfl, rfl, rfl, rfl, rfl⟩

theorem Group.obtain_sameEpisode (x : Group) : x.SameEpisode x.obtain.1 := by
  refine Group.obtain_keeps (law := x.SameEpisode) ?_ ⟨rfl, rfl, rfl, rfl, rfl, rfl⟩ ?_ (.refl x)
  · rcases hq : x.queue with _ | ⟨e, rest⟩
    · rw [Group.take_nil hq]; exact ⟨rfl, rfl, rfl, rfl, rfl, rfl⟩
    · rw [Group.take_cons hq]; exact ⟨rfl, rfl, rfl, rfl, rfl, rfl⟩
  · rcases hq : x.queue with _ | ⟨e, rest⟩
    · rw [Group.skip_nil hq]; exact ⟨rfl, rfl, rfl, rfl, rfl, rfl⟩
    · rw [Group.skip_cons hq]; exact ⟨rfl, rfl, rfl, rfl, rfl, rfl⟩

theorem Group.countSince_sameEpisode (x : Group) : x.SameEpisode x.countSince := by
  rcases x.countSince_cases with ⟨h, -⟩ | ⟨h, -⟩ <;> rw [h] <;> exact ⟨rfl, rfl, rfl, rfl, rfl, rfl⟩

theorem Group.decimate_sameEpisode (x : Group) : x.SameEpisode x.decimate.1 := by
  rcases x.decimate_cases with ⟨-, h⟩ | ⟨-, -, h⟩ | ⟨-, -, h⟩ <;> rw [h] <;> exact ⟨rfl, rfl, rfl, rfl, rfl, rfl⟩

theorem Group.arrive_sameEpisode (x : Group) (seq : Seq) (slots : Tab 6 (Option Du)) :
    x.SameEpisode (x.arrive seq slots).1 :=
  Group.arrive_keeps (law := x.SameEpisode) (fun _ _ h => h) (fun _ h => h) (fun _ _ h => h) (fun _ _ h => h)
    (fun _ h => h) (fun _ h => h) (fun _ _ h => h) seq slots (.refl x)

/-! ## Live states, and the release of CLEAR_FAULTS -/

theorem GState.live_iff (st : GState) : st.live = true ↔ st = .fadeIn ∨ st = .run ∨ st = .fadeOut := by
  cases st <;> simp [GState.live]

theorem GState.live_of_running {st : GState} (h : st.running = true) : st.live = true := by
  cases st with
  | fadeIn | run => rfl
  | _ => cases h

theorem GState.active_of_live {st : GState} (h : st.live = true) : st ≠ .idle ∧ st ≠ .retryWait := by
  rcases st.live_iff.mp h with rfl | rfl | rfl <;> simp

/-- CLEAR_FAULTS removes members, then releases a FAULTED or HELD group without an ACTION member (R152, R153). -/
theorem Group.clearFaults_cases (x : Group) (w i : Bool) :
    x.clearFaults w i = x.removeAbsent w i
      ∨ (x.removeAbsent w i).holdsAction = false
        ∧ (x.clearFaults w i = (x.removeAbsent w i).enterIdle
          ∨ x.state = .held ∧ x.clearFaults w i =
            { (x.removeAbsent w i).enterParking with action := some .park, target := some .idle }) := by
  unfold Group.clearFaults Group.release
  split
  · exact .inl rfl
  · next ha =>
    split
    · exact .inr ⟨by simpa using ha, .inl rfl⟩
    · next hs => exact .inr ⟨by simpa using ha, .inr ⟨hs, rfl⟩⟩
    · exact .inl rfl

/-! ## The retry count (R143) -/

section Retry

variable {x y : Group}

theorem Group.RetryLaw.of_idle (h : y.state = .idle) : y.RetryLaw := fun hs => absurd h hs

theorem Group.RetryLaw.of_same (hx : x.RetryLaw) (h : x.SameEpisode y) : y.RetryLaw := by
  obtain ⟨hs, -, ht, -, hc, hcfg⟩ := h
  rw [Group.RetryLaw, hs, ht, hc, hcfg]
  exact hx

/-- A group that comes from outside IDLE with its count as it was, and that is not on its way to RETRY_WAIT. -/
theorem Group.RetryLaw.of_count (hx : x.RetryLaw) (hs : x.state ≠ .idle) (hc : y.retryCount = x.retryCount)
    (hcfg : y.cfg = x.cfg) (ht : y.target ≠ some .retryWait) : y.RetryLaw := by
  intro _
  rw [hc, hcfg]
  exact ⟨(hx hs).1, fun h => absurd h ht⟩

/-- A group that comes from outside IDLE and RETRY_WAIT with its count and its end target as they were. -/
theorem Group.RetryLaw.of_active (hx : x.RetryLaw) (hs : x.state ≠ .idle ∧ x.state ≠ .retryWait)
    (hc : y.retryCount = x.retryCount) (hcfg : y.cfg = x.cfg) (ht : y.target = x.target) : y.RetryLaw := by
  intro _
  rw [hc, hcfg, ht]
  exact ⟨(hx hs.1).1, fun h _ => (hx hs.1).2 h hs.2⟩

/-- An entry keeps the count within its limit where the entry of RETRY_WAIT finds it below (R145). -/
theorem Group.Acted.retryLaw (h : x.Acted y) (hc : x.retryCount ≤ x.cfg.retryLimit)
    (ht : x.target = some .retryWait → x.retryCount < x.cfg.retryLimit) : y.RetryLaw := by
  cases h with
  | retryWait h => exact fun _ => ⟨ht h, fun _ hs => absurd rfl hs⟩
  | _ => exact fun _ => ⟨hc, fun h _ => ht h⟩

/-- Only a trip that finds the count below its limit leaves RETRY_WAIT as the end target (R143). -/
theorem Group.actionTrip_retryLaw (ev : MonEvent) (hx : x.RetryLaw) (hs : x.state ≠ .idle) :
    (x.actionTrip ev).RetryLaw :=
  (x.actionTrip_acted ev).retryLaw (hx hs).1 fun ht =>
    ((x.retryable_iff ev.mode).mp (targetAfter_retryWait (Option.some.inj ht))).2

theorem Group.trip_retryLaw (ev : MonEvent) (hx : x.RetryLaw) : (x.trip ev).RetryLaw := by
  by_cases hs : x.state = .idle
  · rw [Group.trip_idle ev hs]
    exact hx
  · rcases x.trip_cases ev with h | h | h <;> rw [h]
    · exact hx
    · exact hx
    · exact Group.actionTrip_retryLaw ev hx hs

theorem Group.interlockTrip_retryLaw (hx : x.RetryLaw) : x.interlockTrip.RetryLaw := by
  by_cases hs : x.state = .idle
  · rw [Group.interlockTrip_idle hs]
    exact hx
  · obtain ⟨-, -, ht, -, -, -, hc⟩ := Group.interlockTrip_records hs
    have hcfg : x.interlockTrip.cfg = x.cfg :=
      Group.interlockTrip_keeps (law := fun t => t.cfg = x.cfg) (fun _ _ _ h => h) (fun _ _ _ _ h => h)
        (fun _ h => h) rfl
    exact hx.of_count hs hc hcfg (by simp [ht])

theorem Group.Completion.keeps_retry {r : GenRun} {w i : Bool} (h : x.Completion r w i y) (hx : x.RetryLaw) :
    y.RetryLaw := by
  cases h with
  | stay => exact hx
  | burst hr | ended hr => exact hx.of_active (GState.active_of_live (GState.live_of_running hr)) rfl rfl rfl
  | risen hs | faded hs => exact hx.of_active (by simp [hs]) rfl rfl rfl
  | parked hs =>
    obtain ⟨hc, hlt⟩ := hx (by simp [hs])
    by_cases ht : x.target = some .idle
    · exact .of_idle (by rw [Group.enterTarget_state ht]; rfl)
    · exact (Group.enterTarget_acted ht (by simp [hs, GState.entersTarget])).retryLaw hc fun h => hlt h (by simp [hs])
  | ticked => exact hx
  | resumed hs =>
    exact Group.resumeRun_keeps (law := Group.RetryLaw) (hx.of_count (by simp [hs]) rfl rfl (by simp))
      (hx.of_count (by simp [hs]) rfl rfl (by simp))

/-- Every move keeps the retry count within its limit. -/
theorem Group.Move.keeps_retry (h : x.Move y) (hx : x.RetryLaw) : y.RetryLaw := by
  cases h with
  | fresh => exact .of_idle rfl
  | obtain => exact hx.of_same x.obtain_sameEpisode
  | countSince => exact hx.of_same x.countSince_sameEpisode
  | complete r w i => exact (x.complete_completion r w i).keeps_retry hx
  | decimate => exact hx.of_same x.decimate_sameEpisode
  | trip ev => exact Group.trip_retryLaw ev hx
  | interlockTrip => exact Group.interlockTrip_retryLaw hx
  | arrive i seq slots => exact hx.of_same (x.arrive_sameEpisode seq slots)
  | configure ops c hs => exact .of_idle hs
  | disarm => exact .of_idle rfl
  | start hs => exact hx.of_active (by simp [hs]) rfl rfl rfl
  | stop =>
    rcases x.stopRun_cases with ⟨hr, h⟩ | ⟨-, h⟩ <;> rw [h]
    · exact hx.of_active (GState.active_of_live (GState.live_of_running hr)) rfl rfl rfl
    · exact hx
  | abort y h =>
    rcases Group.abortRun_cases h with ⟨hl, rfl⟩ | ⟨-, rfl⟩ | ⟨hs, rfl⟩ | ⟨-, rfl⟩
    · exact hx.of_count (GState.active_of_live hl).1 rfl rfl (by simp)
    · exact .of_idle rfl
    · exact hx.of_count (by simp [hs]) rfl rfl (by simp)
    · exact hx
  | genStart hs => exact hx.of_active (by simp [hs]) rfl rfl rfl
  | clearFaults w i =>
    rcases x.clearFaults_cases w i with h | ⟨-, h | ⟨hs, h⟩⟩ <;> rw [h]
    · exact hx
    · exact .of_idle rfl
    · exact hx.of_count (by simp [hs]) rfl rfl (by simp)
  | _ => exact hx

end Retry

theorem Group.arm_retryLaw (x : Group) (b : Option MapIx) : (x.arm b).RetryLaw :=
  fun _ => ⟨Nat.zero_le _, fun h => by cases h⟩

/-- Settles O9: every move keeps the count within its limit, and ARM clears it. -/
theorem retryCountStaysWithinItsLimit : Obligations.RetryCountStaysWithinItsLimit :=
  keptByEveryStep_of_event (fun _ _ h => h) fun _ _ he hs =>
    he.keepsEachGroup (fun _ _ hm => hm.keeps_retry) (fun x b _ _ => x.arm_retryLaw b) hs

/-! ## The episode (R146) -/

section Episode

variable {x y : Group}

theorem GState.unfaulted_of_live {st : GState} (h : st.live = true) : st.Unfaulted := by
  rcases st.live_iff.mp h with rfl | rfl | rfl <;> decide

/-- A stronger action leads out of the states without an episode, where the episode ends outside them too (R144). -/
theorem GState.not_unfaulted_after {st final : GState} {a : Option Action} (h : st ≠ .idle) (ha : a ≠ none)
    (hf : ¬ final.Unfaulted) : ¬ (st.after a final).Unfaulted := by
  have hparking : ¬ GState.Unfaulted .parking := by decide
  have hheld : ¬ GState.Unfaulted .held := by decide
  obtain ⟨a, rfl⟩ := Option.ne_none_iff_exists'.mp ha
  cases st with
  | idle => exact absurd rfl h
  | armed => exact hf
  | fadeIn | run | fadeOut | parking =>
    cases a with
    | park => exact hparking
    | hold => exact hheld
    | null => exact hf
  | held =>
    cases a with
    | park | hold => exact hheld
    | null => exact hf
  | retryWait => exact (by decide : ¬ GState.Unfaulted .retryWait)
  | faulted => exact (by decide : ¬ GState.Unfaulted .faulted)

theorem not_unfaulted_targetAfter (old : Option EndTarget) (r : Bool) : ¬ (targetAfter old r).state.Unfaulted := by
  rw [targetAfter_eq]
  split <;> decide

theorem strength_pos {a : Option Action} (h : a ≠ none) : 0 < strength a := by
  rcases a with _ | a
  · exact absurd rfl h
  · cases a <;> decide

theorem Group.holdsAction_congr (h : ∀ k : Kind, y.classOf k = some .action → x.classOf k = some .action)
    (hx : x.holdsAction = false) : y.holdsAction = false := by
  rw [Bool.eq_false_iff, ne_eq, Group.holdsAction_iff] at hx ⊢
  exact fun ⟨k, hk⟩ => hx ⟨k, h k hk⟩

theorem Group.EpisodeLaw.of_none (ha : y.action = none) (ht : y.target = none) (hh : y.holdsAction = false) :
    y.EpisodeLaw := ⟨fun _ => ⟨ha, ht⟩, fun _ => hh⟩

/-- In an episode that ends outside IDLE the law asks nothing. -/
theorem Group.EpisodeLaw.of_episode (hs : ¬ y.state.Unfaulted) (ht : y.target ≠ some .idle) : y.EpisodeLaw :=
  ⟨fun h => absurd h hs, fun h => (h.elim hs ht).elim⟩

/-- In an episode that ends in IDLE the law asks for no ACTION kind. -/
theorem Group.EpisodeLaw.of_released (hs : ¬ y.state.Unfaulted) (hh : y.holdsAction = false) : y.EpisodeLaw :=
  ⟨fun h => absurd h hs, fun _ => hh⟩

/-- A group whose episode stays, with no new ACTION kind. -/
theorem Group.EpisodeLaw.of_record (hx : x.EpisodeLaw) (hs : y.state = x.state) (ha : y.action = x.action)
    (ht : y.target = x.target) (hl : ∀ k : Kind, y.classOf k = some .action → x.classOf k = some .action) :
    y.EpisodeLaw := by
  rw [Group.EpisodeLaw, hs, ha, ht]
  exact ⟨hx.1, fun h => Group.holdsAction_congr hl (hx.2 h)⟩

theorem Group.EpisodeLaw.of_same (hx : x.EpisodeLaw) (h : x.SameEpisode y) : y.EpisodeLaw := by
  obtain ⟨hs, ha, ht, hl, -⟩ := h
  exact hx.of_record hs ha ht fun k hk => by rwa [Group.classOf, ← hl]

/-- What the law says in the states without an episode. -/
theorem Group.EpisodeLaw.unfaulted (hx : x.EpisodeLaw) (hs : x.state.Unfaulted) :
    x.action = none ∧ x.target = none ∧ x.holdsAction = false := by
  obtain ⟨ha, ht⟩ := hx.1 hs
  exact ⟨ha, ht, hx.2 (.inl hs)⟩

/-- A report latches no ACTION kind (R140). -/
theorem Group.latch_report_episodeLaw (k : Kind) (hx : x.EpisodeLaw) : (x.latch k .report).EpisodeLaw := by
  refine hx.of_record rfl rfl rfl fun j hj => ?_
  rw [Group.classOf_latch] at hj
  split at hj
  · next hk =>
    subst hk
    cases hc : x.classOf k with
    | none => simp [hc, joinClass] at hj
    | some c => simpa [hc, joinClass_report] using hj
  · exact hj

/-- An action trip leaves its group in an episode, outside the states without one (R143, R144). -/
theorem Group.actionTrip_episodeLaw {ev : MonEvent} (ha : ev.action ≠ none) (hx : x.EpisodeLaw)
    (hs : x.state ≠ .idle) : (x.actionTrip ev).EpisodeLaw := by
  obtain ⟨-, htarget, -⟩ := (x.actionTrip_acted ev).record
  refine .of_episode ?_ (by simp [htarget, Group.braced, Group.struck, targetAfter_ne_idle])
  rw [Group.actionTrip_state]
  split
  · split <;> decide
  · split
    · exact GState.not_unfaulted_after hs ha (not_unfaulted_targetAfter _ _)
    · next hweak =>
      refine fun hu => hweak ?_
      rw [(hx.1 hu).1]
      exact strength_pos ha

theorem Group.trip_episodeLaw {ev : MonEvent} (h : ev.Acts) (hx : x.EpisodeLaw) : (x.trip ev).EpisodeLaw := by
  by_cases hs : x.state = .idle
  · rw [Group.trip_idle ev hs]
    exact hx
  · obtain ⟨hreport, hact⟩ := Group.trip_active (ev := ev) hs
    cases hm : ev.mode with
    | report => rw [hreport hm]; exact Group.latch_report_episodeLaw ev.kind hx
    | latch => rw [hact (.inl hm)]; exact Group.actionTrip_episodeLaw (h (by simp [hm])) hx hs
    | retry => rw [hact (.inr hm)]; exact Group.actionTrip_episodeLaw (h (by simp [hm])) hx hs
    | off =>
      have hoff : x.trip ev = x := by simp [Group.trip, hm]
      rw [hoff]
      exact hx

theorem Group.interlockTrip_episodeLaw (hx : x.EpisodeLaw) : x.interlockTrip.EpisodeLaw := by
  by_cases hs : x.state = .idle
  · rw [Group.interlockTrip_idle hs]
    exact hx
  · obtain ⟨hstate, -, ht, -⟩ := Group.interlockTrip_records hs
    exact .of_episode (by rw [hstate]; decide) (by simp [ht])

/-- An entry from an episode stays in one (R144, R145). -/
theorem Group.Acted.episodeLaw (h : x.Acted y) (hx : x.EpisodeLaw) (ht : x.target ≠ some .idle) : y.EpisodeLaw := by
  cases h with
  | stay => exact hx
  | _ => exact .of_episode (by simp) ht

/-- The demotion leaves no ACTION kind (R150). -/
theorem Group.holdsAction_demote (x : Group) : x.demote.holdsAction = false := by
  rw [Bool.eq_false_iff, ne_eq, Group.holdsAction_iff]
  rintro ⟨k, hk⟩
  simp only [Group.classOf, Group.demote, Tab.get_map] at hk
  split at hk
  · cases hk
  · contradiction

theorem Group.Completion.keeps_episode {r : GenRun} {w i : Bool} (h : x.Completion r w i y) (hx : x.EpisodeLaw) :
    y.EpisodeLaw := by
  have live (hl : x.state.live = true) := hx.unfaulted (GState.unfaulted_of_live hl)
  cases h with
  | stay => exact hx
  | burst hr | ended hr =>
    obtain ⟨ha, ht, hh⟩ := live (GState.live_of_running hr)
    exact .of_none ha ht hh
  | risen hs | faded hs =>
    obtain ⟨ha, ht, hh⟩ := live (by simp [hs, GState.live])
    exact .of_none ha ht hh
  | parked hs =>
    by_cases ht : x.target = some .idle
    · have hidle : x.enterTarget = x.enterIdle := by rw [Group.enterTarget, ht]
      rw [hidle]
      exact .of_none rfl rfl (hx.2 (.inr ht))
    · exact (Group.enterTarget_acted ht (by simp [hs, GState.entersTarget])).episodeLaw hx ht
  | ticked => exact hx
  | resumed hs n =>
    have hd := ({ x with retryTimer := n } : Group).holdsAction_demote
    exact Group.resumeRun_keeps (law := Group.EpisodeLaw) (.of_none rfl rfl hd) (.of_none rfl rfl hd)

theorem Group.clearFaults_episodeLaw (w i : Bool) (hx : x.EpisodeLaw) : (x.clearFaults w i).EpisodeLaw := by
  rcases x.clearFaults_cases w i with h | ⟨ha, h | ⟨-, h⟩⟩ <;> rw [h]
  · refine hx.of_record rfl rfl rfl fun k hk => ?_
    rw [Group.classOf_removeAbsent] at hk
    split at hk
    · exact hk
    · cases hk
  · exact .of_none rfl rfl ha
  · exact .of_released (by simp) ha

/-- Every move keeps the episode's law. -/
theorem Group.Move.keeps_episode (h : x.Move y) (hx : x.EpisodeLaw) : y.EpisodeLaw := by
  have armed (hs : x.state = .armed) := hx.unfaulted (.inr (.inl hs))
  have live (hl : x.state.live = true) := hx.unfaulted (GState.unfaulted_of_live hl)
  cases h with
  | fresh => decide
  | obtain => exact hx.of_same x.obtain_sameEpisode
  | countSince => exact hx.of_same x.countSince_sameEpisode
  | complete r w i => exact (x.complete_completion r w i).keeps_episode hx
  | decimate => exact hx.of_same x.decimate_sameEpisode
  | trip ev hev => exact Group.trip_episodeLaw hev hx
  | interlockTrip => exact Group.interlockTrip_episodeLaw hx
  | arrive i seq slots => exact hx.of_same (x.arrive_sameEpisode seq slots)
  | disarm hs =>
    obtain ⟨-, -, hh⟩ := armed hs
    exact .of_none rfl rfl hh
  | start hs | genStart hs =>
    obtain ⟨ha, ht, hh⟩ := armed hs
    exact .of_none ha ht hh
  | stop =>
    rcases x.stopRun_cases with ⟨hr, h⟩ | ⟨-, h⟩ <;> rw [h]
    · obtain ⟨ha, ht, hh⟩ := live (GState.live_of_running hr)
      exact .of_none ha ht hh
    · exact hx
  | abort y h =>
    rcases Group.abortRun_cases h with ⟨hl, rfl⟩ | ⟨hs, rfl⟩ | ⟨-, rfl⟩ | ⟨-, rfl⟩
    · obtain ⟨-, -, hh⟩ := live hl
      exact .of_released (by simp) hh
    · obtain ⟨-, -, hh⟩ := armed hs
      exact .of_none rfl rfl hh
    · exact .of_episode (by simp) (by simp)
    · exact hx
  | clearFaults w i => exact Group.clearFaults_episodeLaw w i hx
  | _ => exact hx

end Episode

theorem Group.arm_episodeLaw (x : Group) (b : Option MapIx) (hs : x.state = .idle) (hx : x.EpisodeLaw) :
    (x.arm b).EpisodeLaw := .of_none rfl rfl (hx.2 (.inl (.inl hs)))

/-- Settles O10: every move keeps the law, and ARM begins without an episode. -/
theorem episodeLawIsKept : Obligations.EpisodeLawIsKept :=
  keptByEveryStep_of_event (fun _ _ h => h) fun _ _ he hs =>
    he.keepsEachGroup (fun _ _ hm => hm.keeps_episode) (fun x b => x.arm_episodeLaw b) hs

end Sys2Proof.Machine
end

section
/-! The FAULT and ALERT lines (R155): an event that moves a latched set or the alert mask drives both lines, and any
other leaves the lines and all that they read. -/

namespace Sys2Proof.Machine

/-! ## What the lines read -/

/-- The lines, the alert mask and every latched set, as they were. -/
abbrev State.SameLines (s t : State) : Prop :=
  t.faultLine = s.faultLine ∧ t.alertLine = s.alertLine ∧ t.alertMask = s.alertMask
    ∧ ∀ g : GroupIx, (t.group g).latched = (s.group g).latched

section Lines

variable {s t : State}

theorem State.LineLaw.of_same (hs : s.LineLaw) (h : s.SameLines t) : t.LineLaw := by
  obtain ⟨hf, ha, hm, hl⟩ := h
  simpa only [State.LineLaw, Group.classOf, hf, ha, hm, hl] using hs

/-- With the groups as they were, the lines and the mask suffice. -/
theorem State.LineLaw.of_groups (hs : s.LineLaw) (hg : t.groups = s.groups) (hf : t.faultLine = s.faultLine)
    (ha : t.alertLine = s.alertLine) (hm : t.alertMask = s.alertMask) : t.LineLaw :=
  hs.of_same ⟨hf, ha, hm, fun g => by rw [State.group, State.group, hg]⟩

theorem State.LineLaw.of_driven (hf : t.faultLine = faultOf t.groups) (ha : t.alertLine = alertOf t.groups t.alertMask) :
    t.LineLaw := by
  have h := t.driveLines_lineLaw
  rwa [State.LineLaw, State.driveLines_faultLine, State.driveLines_alertLine, ← hf, ← ha] at h

/-- Both lines low, and nothing latched: the values after a reset. -/
theorem State.LineLaw.of_fresh (hg : t.groups = Tab.fill defaultGroup) (hf : t.faultLine = false)
    (ha : t.alertLine = false) : t.LineLaw := by
  have hclass (g : GroupIx) (k : Kind) : (t.group g).classOf k = none := by
    rw [State.group, hg, Tab.get_fill]
    exact Tab.get_fill _ _
  simp [State.LineLaw, hclass, hf, ha]

theorem State.LineLaw.setGroup (hs : s.LineLaw) {g : GroupIx} {x : Group} (h : x.latched = (s.group g).latched) :
    (s.setGroup g x).LineLaw := by
  refine hs.of_same ⟨rfl, rfl, rfl, fun j => ?_⟩
  by_cases hj : j = g
  · subst hj
    rw [State.group_setGroup, h]
  · rw [State.group_setGroup_ne s x hj]

theorem State.LineLaw.modPort (hs : s.LineLaw) (p : Port) (f : PortState → PortState) : (s.modPort p f).LineLaw :=
  hs.of_groups (by simp) (by simp) (by simp) (by simp)

theorem State.LineLaw.dequeue (hs : s.LineLaw) (p : Port) : (s.dequeue p).LineLaw :=
  hs.of_groups (by simp) (by simp) (by simp) (by simp)

/-! ## Frames -/

/-- An arrival at the queue latches nothing; the SEQ_BREAK event it may raise drives the lines (R58, R155). -/
theorem State.driveArrival_lineLaw (hs : s.LineLaw) (g : GroupIx) (seq : Seq) (slots : Tab 6 (Option Du)) :
    (s.driveArrival g seq slots).LineLaw := by
  obtain ⟨-, -, -, hl, -⟩ := (s.group g).arrive_sameEpisode seq slots
  unfold State.driveArrival
  dsimp only
  split
  · exact State.driveLines_lineLaw _
  · exact hs.setGroup hl

theorem State.noteExcess_lineLaw (hs : s.LineLaw) (p : Port) (e : MapEntry) (bs : List Byte) :
    (s.noteExcess p e bs).LineLaw := by
  unfold State.noteExcess
  split
  · exact hs.modPort p _
  · exact hs

theorem State.FrameFate.keeps_lines {p : Port} (h : s.FrameFate p t) (hs : s.LineLaw) : t.LineLaw := by
  cases h with
  | counted f => exact hs.modPort p f
  | dispatched bs => exact hs.modPort p _
  | unbound g | refused g | staleTrim g => exact hs.setGroup rfl
  | queued i bs seq slots => exact State.driveArrival_lineLaw (State.noteExcess_lineLaw hs p _ bs) _ seq slots
  | trimmed i bs seq slots => exact (State.noteExcess_lineLaw hs p (s.map.get i) bs).setGroup rfl

theorem State.feedback_lineLaw (hs : s.LineLaw) (bs : List Byte) : (s.feedback bs).LineLaw := by
  cases hj : s.judgeFeedback bs with
  | checkError => rw [State.feedback_checkError hj]; exact hs
  | malformed => rw [State.feedback_malformed hj]; exact hs
  | stale g =>
    rw [State.feedback_stale hj]
    exact State.LineLaw.setGroup (s := s.countServoFrame) hs rfl
  | accepted g => rw [State.feedback_accepted hj]; exact State.driveLines_lineLaw _

theorem State.tick_lineLaw (hs : s.LineLaw) (u : TickUnit) : (s.tick u).LineLaw := by
  rcases s.tick_cases u with ⟨h, -⟩ | ⟨h, -⟩ | ⟨h, -⟩ <;> rw [h]
  · exact State.driveLines_lineLaw _
  · exact hs
  · exact hs

theorem State.sendComplete_lineLaw (hs : s.LineLaw) (p : Port) (levels : Straps) :
    (s.sendComplete p levels).LineLaw := by
  rcases hq : (s.port p).sending with _ | f
  · rw [State.sendComplete_idle levels hq]
    exact hs
  · rcases hl : f.landing with _ | k
    · rw [State.sendComplete_next levels hq hl]
      exact hs.modPort p _
    · rw [State.sendComplete_land levels hq hl]
      exact .of_fresh rfl rfl rfl

/-! ## Requests -/

/-- What every answer of a request on a group keeps, the request keeps. -/
theorem onGroup_effect {law : State → Prop} {q : Request} {f : GroupIx → Verdict} (hs : law s)
    (hf : ∀ g, law ((f g).effect s)) : law ((onGroup q f).effect s) := by
  unfold onGroup
  split
  · exact hs
  · exact hf _

theorem Group.abortRun_latched {x y : Group} (h : x.abortRun = some y) : y.latched = x.latched := by
  rcases Group.abortRun_cases h with ⟨-, rfl⟩ | ⟨-, rfl⟩ | ⟨-, rfl⟩ | ⟨-, rfl⟩ <;> rfl

theorem Group.stopRun_latched (x : Group) : x.stopRun.latched = x.latched := by
  rcases x.stopRun_cases with ⟨-, h⟩ | ⟨-, h⟩ <;> rw [h]

section Judging

variable (hs : s.LineLaw) (p : Port) (q : Request)

include hs

/-! ### Requests that leave the groups, the mask and the lines -/

theorem judgeWriteMapEntry_lines : ((judgeWriteMapEntry p q s).effect s).LineLaw := by
  unfold judgeWriteMapEntry
  repeat' split
  all_goals exact hs

theorem judgeReadMapEntry_lines : ((judgeReadMapEntry p q s).effect s).LineLaw := by
  unfold judgeReadMapEntry
  split <;> exact hs

theorem judgeClearMapEntry_lines : ((judgeClearMapEntry p q s).effect s).LineLaw := by
  unfold judgeClearMapEntry
  repeat' split
  all_goals exact hs

theorem judgeReadPortPolicy_lines : ((judgeReadPortPolicy p q s).effect s).LineLaw := by
  unfold judgeReadPortPolicy
  split <;> exact hs

theorem judgeReadProfile_lines : ((judgeReadProfile p q s).effect s).LineLaw := by
  unfold judgeReadProfile
  split <;> exact hs

theorem judgeReadLimitSet_lines : ((judgeReadLimitSet p q s).effect s).LineLaw := by
  unfold judgeReadLimitSet
  split <;> exact hs

theorem judgeReadGroupConfig_lines : ((judgeReadGroupConfig p q s).effect s).LineLaw := by
  unfold judgeReadGroupConfig
  split <;> exact hs

theorem judgeSetRate_lines : ((judgeSetRate p q s).effect s).LineLaw := by
  unfold judgeSetRate
  repeat' split
  all_goals exact hs

theorem judgeReadFaults_lines : ((judgeReadFaults p q s).effect s).LineLaw := by
  unfold judgeReadFaults
  repeat' split
  all_goals exact hs

theorem judgeSetWatchdog_lines : ((judgeSetWatchdog p q s).effect s).LineLaw := by
  unfold judgeSetWatchdog
  split <;> exact hs

theorem judgeReadServoStats_lines : ((judgeReadServoStats p q s).effect s).LineLaw := by
  unfold judgeReadServoStats
  repeat' split
  all_goals exact hs

theorem judgeResetPart_lines : ((judgeResetPart p q s).effect s).LineLaw := by
  unfold judgeResetPart
  repeat' split
  all_goals exact hs

theorem judgeWritePortPolicy_lines : ((judgeWritePortPolicy p q s).effect s).LineLaw := by
  unfold judgeWritePortPolicy
  repeat' split
  · exact hs
  · exact hs
  · rw [Verdict.effect]
    exact hs.modPort _ _
  · exact hs

theorem judgeReadPortStats_lines : ((judgeReadPortStats p q s).effect s).LineLaw := by
  unfold judgeReadPortStats
  repeat' split
  · exact hs
  · exact hs
  · rw [Verdict.effect]
    exact hs.modPort _ _
  · exact hs

theorem judgeSetClassAction_lines : ((judgeSetClassAction p q s).effect s).LineLaw := by
  unfold judgeSetClassAction
  repeat' split
  · exact hs
  · exact hs
  · rw [Verdict.effect]
    exact hs.modPort _ _
  · exact hs

/-! ### Requests on the groups: none moves a latched set -/

theorem judgeWriteProfile_lines : ((judgeWriteProfile p q s).effect s).LineLaw := by
  unfold judgeWriteProfile
  dsimp only
  repeat' split
  · exact hs
  · exact hs
  · exact hs
  · exact hs.setGroup rfl
  · exact hs

theorem judgeWriteGroupConfig_lines : ((judgeWriteGroupConfig p q s).effect s).LineLaw := by
  unfold judgeWriteGroupConfig
  repeat' split
  · exact hs
  · exact hs
  · exact hs
  · exact hs.setGroup rfl

theorem judgeGenConfig_lines : ((judgeGenConfig p q s).effect s).LineLaw := by
  unfold judgeGenConfig
  repeat' split
  · exact hs
  · exact hs
  · exact hs
  · exact hs.setGroup rfl

theorem judgeReadGroupStats_lines : ((judgeReadGroupStats p q s).effect s).LineLaw := by
  unfold judgeReadGroupStats
  repeat' split
  · exact hs
  · exact hs
  · exact hs.setGroup rfl
  · exact hs

theorem judgeReadChannelStats_lines : ((judgeReadChannelStats p q s).effect s).LineLaw := by
  unfold judgeReadChannelStats
  repeat' split
  · exact hs
  · exact hs
  · exact hs.setGroup rfl
  · exact hs

theorem judgeArm_lines : ((judgeArm p q s).effect s).LineLaw := by
  refine onGroup_effect hs fun g => ?_
  repeat' split
  · exact hs
  · exact hs
  · exact hs
  · exact hs.setGroup rfl

theorem judgeDisarm_lines : ((judgeDisarm p q s).effect s).LineLaw := by
  refine onGroup_effect hs fun g => ?_
  split
  · exact hs.setGroup rfl
  · exact hs

theorem judgeStart_lines : ((judgeStart p q s).effect s).LineLaw := by
  refine onGroup_effect hs fun g => ?_
  dsimp only
  repeat' split
  · exact hs
  · exact hs
  · exact hs
  · exact hs.setGroup rfl

theorem judgeStop_lines : ((judgeStop p q s).effect s).LineLaw := by
  refine onGroup_effect hs fun g => ?_
  split
  · exact hs.setGroup (s.group g).stopRun_latched
  · exact hs

theorem judgeAbort_lines : ((judgeAbort p q s).effect s).LineLaw := by
  refine onGroup_effect hs fun g => ?_
  split
  · next x hx => exact hs.setGroup (Group.abortRun_latched hx)
  · exact hs

theorem judgeGenStart_lines : ((judgeGenStart p q s).effect s).LineLaw := by
  refine onGroup_effect hs fun g => ?_
  repeat' split
  · exact hs
  · exact hs
  · exact hs.setGroup rfl

theorem judgeSetLevel_lines : ((judgeSetLevel p q s).effect s).LineLaw :=
  onGroup_effect hs fun _ => hs.setGroup rfl

theorem judgeReadGroupStatus_lines : ((judgeReadGroupStatus p q s).effect s).LineLaw :=
  onGroup_effect hs fun _ => hs.setGroup rfl

theorem judgeWriteLimitSet_lines : ((judgeWriteLimitSet p q s).effect s).LineLaw := by
  unfold judgeWriteLimitSet
  repeat' split
  · exact hs
  · exact hs
  · exact hs.of_same ⟨rfl, rfl, rfl, fun g => by simp [Verdict.effect, State.group]⟩

/-! ### Requests that drive the lines -/

theorem judgeClearFaults_lines : ((judgeClearFaults p q s).effect s).LineLaw := by
  unfold judgeClearFaults
  repeat' split
  · exact hs
  · exact State.driveLines_lineLaw _

theorem judgeSetAlertMask_lines : ((judgeSetAlertMask p q s).effect s).LineLaw := by
  unfold judgeSetAlertMask
  repeat' split
  · exact State.driveLines_lineLaw _
  · exact hs

theorem judgeForceWatchdog_lines : ((judgeForceWatchdog p q s).effect s).LineLaw := by
  unfold judgeForceWatchdog
  repeat' split
  · exact State.driveLines_lineLaw _
  · exact hs

/-- A request that moves a latched set or the mask drives the lines, and every other leaves what they read (R155). -/
theorem judge_lines (k : ReqKind) : ((k.judge p q s).effect s).LineLaw := by
  cases k with
  | identify | keepalive | readStatus | readClassActions => exact hs
  | writeMapEntry => exact judgeWriteMapEntry_lines hs p q
  | readMapEntry => exact judgeReadMapEntry_lines hs p q
  | clearMapEntry => exact judgeClearMapEntry_lines hs p q
  | writePortPolicy => exact judgeWritePortPolicy_lines hs p q
  | readPortPolicy => exact judgeReadPortPolicy_lines hs p q
  | writeProfile => exact judgeWriteProfile_lines hs p q
  | readProfile => exact judgeReadProfile_lines hs p q
  | writeLimitSet => exact judgeWriteLimitSet_lines hs p q
  | readLimitSet => exact judgeReadLimitSet_lines hs p q
  | writeGroupConfig => exact judgeWriteGroupConfig_lines hs p q
  | readGroupConfig => exact judgeReadGroupConfig_lines hs p q
  | setRate => exact judgeSetRate_lines hs p q
  | genConfig => exact judgeGenConfig_lines hs p q
  | arm => exact judgeArm_lines hs p q
  | disarm => exact judgeDisarm_lines hs p q
  | start => exact judgeStart_lines hs p q
  | stop => exact judgeStop_lines hs p q
  | abort => exact judgeAbort_lines hs p q
  | setLevel => exact judgeSetLevel_lines hs p q
  | genStart => exact judgeGenStart_lines hs p q
  | readGroupStatus => exact judgeReadGroupStatus_lines hs p q
  | readFaults => exact judgeReadFaults_lines hs p q
  | clearFaults => exact judgeClearFaults_lines hs p q
  | setAlertMask => exact judgeSetAlertMask_lines hs p q
  | setWatchdog => exact judgeSetWatchdog_lines hs p q
  | forceWatchdog => exact judgeForceWatchdog_lines hs p q
  | readPortStats => exact judgeReadPortStats_lines hs p q
  | readGroupStats => exact judgeReadGroupStats_lines hs p q
  | readChannelStats => exact judgeReadChannelStats_lines hs p q
  | readServoStats => exact judgeReadServoStats_lines hs p q
  | setClassAction => exact judgeSetClassAction_lines hs p q
  | resetPart => exact judgeResetPart_lines hs p q

end Judging

/-- A request carried out leaves the lines as its effect has them: its answer reads none of them. -/
theorem State.carryOut_lineLaw {p : Port} {q : Request} {v : Verdict} (h : (v.effect (s.dequeue p)).LineLaw) :
    (s.carryOut p q v).LineLaw := by
  have hr : ((v.effect (s.dequeue p)).respond p q v).LineLaw := h.modPort _ _
  unfold State.carryOut State.echo
  split
  · exact hr.modPort _ _
  · exact hr

/-! ## The law -/

/-- Every event keeps the lines' law. -/
theorem State.Event.keeps_lines (h : s.Event t) (hs : s.LineLaw) : t.LineLaw := by
  cases h with
  | idle | closing => exact hs
  | powerOn pins => exact .of_fresh rfl rfl rfl
  | frame p bs => exact (State.ingress_fate _ p bs).keeps_lines (hs.modPort p _)
  | refused p q st => exact State.carryOut_lineLaw (hs.dequeue p)
  | taken k p q a pl u hn hk hv =>
    rw [← hv]
    exact State.carryOut_lineLaw (judge_lines (hs.dequeue p) p q k)
  | playout g =>
    obtain ⟨hf, ha⟩ := s.playout_lines g
    refine .of_driven hf (ha.trans ?_)
    rw [State.playout_frame]
  | feedback bs => exact State.feedback_lineLaw hs bs
  | tick u => exact State.tick_lineLaw hs u
  | opening => exact State.driveLines_lineLaw _
  | sendComplete p levels => exact State.sendComplete_lineLaw hs p levels

end Lines

/-- Settles O18: every event that moves what the lines read drives them, and every other leaves both. -/
theorem linesFollowTheFaultSets : Obligations.LinesFollowTheFaultSets :=
  keptByEveryStep_of_event (fun _ _ h => h) fun _ _ he => he.keeps_lines

end Sys2Proof.Machine
end

section
/-! The ports (R162, R165, R181): what each event leaves of a port, and the law of its queues and its transmitter. Every
move of a port keeps the law but for the length of the response queue, which a take alone raises, from below 4 (R163). -/

namespace Sys2Proof.Machine

/-! ## What frames and effects leave of a port -/

/-- Ingress moves the request queue and the counters of a port alone (R30, R160). -/
theorem State.FrameFate.port_frame {s t : State} {p : Port} (h : s.FrameFate p t) (r : Port) :
    t.port r = { s.port r with requests := (t.port r).requests, ctr := (t.port r).ctr } := by
  have hm (f : PortState → PortState) (hf : f (s.port p) = { s.port p with
      requests := (f (s.port p)).requests, ctr := (f (s.port p)).ctr }) :
      (s.modPort p f).port r = { s.port r with
        requests := ((s.modPort p f).port r).requests, ctr := ((s.modPort p f).port r).ctr } := by
    rcases eq_or_eq_otherPort p r with rfl | rfl
    · rwa [State.port_modPort]
    · rw [State.port_modPort_other]
  have hx (e : MapEntry) (bs : List Byte) : (s.noteExcess p e bs).port r = { s.port r with
      requests := ((s.noteExcess p e bs).port r).requests, ctr := ((s.noteExcess p e bs).port r).ctr } := by
    rcases eq_or_eq_otherPort p r with rfl | rfl
    · rw [State.port_noteExcess]
    · rw [State.port_noteExcess_other]
  cases h with
  | counted f hf =>
    simp only [List.mem_cons, List.not_mem_nil, or_false] at hf
    rcases hf with rfl | rfl | rfl | rfl <;> exact hm _ rfl
  | dispatched bs => exact hm _ ((s.port p).dispatch_frame bs)
  | unbound g | refused g | staleTrim g => rw [State.port_modGroup]
  | queued i bs seq slots h => rw [State.port_driveArrival]; exact hx _ bs
  | trimmed i bs seq slots hr hv => rw [State.port_withMap, State.port_modGroup]; exact hx _ bs

/-- A taken request's effect moves the policy, the class actions and the counters of a port alone. -/
theorem State.Effect.port_frame {s t : State} {p : Port} (h : s.Effect p t) (r : Port) :
    t.port r = { s.port r with
      policy := (t.port r).policy, actions := (t.port r).actions, ctr := (t.port r).ctr } := by
  cases h with
  | policy c a n hn | actions c k n a hl ha | portCounters c =>
    rcases eq_or_eq_otherPort c r with rfl | rfl
    · rw [State.port_modPort]
    · rw [State.port_modPort_other]
  | _ => cases r <;> rfl

/-! ## The transmitter (R181) -/

/-- A transmitter that sends a response or an echo sends the head of its queue (R165). -/
abbrev PortState.HeadLaw (x : PortState) : Prop :=
  ∀ f ∈ x.sending,
    (f.source = .response → x.responses.head? = some { frame := f.frame, landing := f.landing })
      ∧ (f.source = .echo → x.echoes.head? = some f.frame)

/-- Where the rotation finds no record, no slot is occupied (R181). -/
theorem PortState.slots_of_nextSlot_none {x : PortState} (h : x.nextSlot = none) (g : GroupIx) :
    x.slots.get g = none := by
  have hmem : ∀ n j : GroupIx, j ∈ [n, n + 1, n + 2, n + 3] := by decide
  simpa using List.findSome?_eq_none_iff.mp h g (hmem _ g)

/-- A choice leaves nothing to send unless the transmitter sends (R181). -/
theorem PortState.choose_sendLaw {x : PortState} (h : x.HeadLaw) : x.choose.SendLaw := by
  rcases hs : x.sending with _ | f
  · rcases hr : x.responses with _ | ⟨r, rest⟩
    · rcases he : x.echoes with _ | ⟨e, rest⟩
      · rcases hn : x.nextSlot with _ | ⟨g, u⟩
        · rw [choose_nothing hs hr he hn]
          exact ⟨fun _ => ⟨hr, he, slots_of_nextSlot_none hn⟩, h⟩
        · rw [choose_slot hs hr he hn]
          simp [PortState.SendLaw]
      · rw [choose_echo hs hr he]
        simp [PortState.SendLaw, he]
    · rw [choose_response hs hr]
      simp [PortState.SendLaw, hr]
  · rw [choose_busy hs]
    exact ⟨fun hn => by simp [hs] at hn, h⟩

/-- A frame appended to a queue leaves its head. -/
theorem head?_append_singleton {α : Type} {xs : List α} {a : α} (b : α) (h : xs.head? = some a) :
    (xs ++ [b]).head? = some a := by
  simp [List.head?_append, h]

/-! ## The law under the moves of a port -/

/-- The law of a port's queues and transmitter, less the length of the response queue. -/
abbrev PortState.FlowLaw (x : PortState) : Prop := x.requests.length ≤ 4 ∧ x.echoes.length ≤ 4 ∧ x.SendLaw

theorem PortState.FlowLaw.of_idle {x : PortState} (hq : x.requests = []) (hr : x.responses = []) (he : x.echoes = [])
    (hs : ∀ g : GroupIx, x.slots.get g = none) (hd : ∀ f ∈ x.sending, f.source = .detached) : x.FlowLaw := by
  refine ⟨by simp [hq], by simp [he], fun _ => ⟨hr, he, hs⟩, fun f hf => ?_⟩
  simp [hd f hf]

theorem PortState.land_flow (x : PortState) : x.land.FlowLaw := by
  refine .of_idle rfl rfl rfl (fun g => Tab.get_fill _ g) fun f hf => ?_
  obtain ⟨u, -, rfl⟩ := Option.map_eq_some_iff.mp hf
  rfl

/-- Class dispatch queues no fifth request (R160, R162). -/
theorem PortState.dispatch_requests {x : PortState} (bs : List Byte) (hx : x.requests.length ≤ 4) :
    (x.dispatch bs).requests.length ≤ 4 := by
  unfold PortState.dispatch
  split
  · exact hx
  · split
    · exact hx
    · split
      · exact hx
      · next hc =>
        simp only [Config.portQueueCapacity, Nat.not_le] at hc
        simpa using hc

theorem PortState.choose_flow {x : PortState} (hq : x.requests.length ≤ 4) (he : x.echoes.length ≤ 4)
    (hh : x.HeadLaw) : x.choose.FlowLaw :=
  ⟨by simpa using hq, by simpa using he, PortState.choose_sendLaw hh⟩

theorem PortState.pushEcho_flow {x : PortState} (e : UpFrame) (hx : x.FlowLaw) : (x.pushEcho e).FlowLaw := by
  obtain ⟨hq, he, -, hh⟩ := id hx
  unfold PortState.pushEcho
  split
  · next hc =>
    refine PortState.choose_flow hq (by simpa [Config.portQueueCapacity] using hc) fun f hf => ?_
    exact ⟨(hh f hf).1, fun h => head?_append_singleton e ((hh f hf).2 h)⟩
  · exact hx

theorem PortState.Move.keeps_flow {x y : PortState} (h : x.Move y) (hx : x.FlowLaw) : y.FlowLaw := by
  obtain ⟨hq, he, hs, hh⟩ := id hx
  cases h with
  | fresh => exact .of_idle rfl rfl rfl (fun g => Tab.get_fill _ g) fun f hf => by cases hf
  | land => exact x.land_flow
  | count f hf =>
    simp only [List.mem_cons, List.not_mem_nil, or_false] at hf
    rcases hf with rfl | rfl | rfl | rfl | rfl | rfl <;> exact hx
  | dispatch bs =>
    have hd := PortState.dispatch_requests bs hq
    rw [PortState.dispatch_frame]
    exact ⟨hd, he, hs, hh⟩
  | dequeue => exact ⟨by simp only [List.length_tail]; omega, he, hs, hh⟩
  | respond r =>
    exact PortState.choose_flow hq he fun f hf => ⟨fun h => head?_append_singleton r ((hh f hf).1 h), (hh f hf).2⟩
  | echo e => exact PortState.pushEcho_flow e hx
  | record g f =>
    unfold PortState.placeRecord
    dsimp only
    split <;> exact PortState.choose_flow hq he hh
  | finish f hf =>
    refine PortState.choose_flow hq ?_ fun u hu => by cases hu
    simp only [PortState.finish]
    split
    · simp only [List.length_tail]; omega
    · exact he
  | finishLand f hf => exact (x.finish f).land_flow
  | policy | actions | clearCounters => exact hx

/-! ## The response queue (R163, R165) -/

/-- A ready port's response queue has room (R163). -/
theorem State.responses_of_nextRequest {s : State} {p : Port} {q : Request} (h : s.nextRequest = some (p, q)) :
    (s.port p).responses.length < 4 := by
  have hr := (State.ready_of_nextRequest h).1
  unfold State.ready at hr
  split at hr
  · cases hr
  · simp only [Bool.and_eq_true, decide_eq_true_eq] at hr
    exact hr.1

/-- A take that its effect leaves the response queues to answers one response, into the room it found. -/
theorem State.carryOut_responses {s : State} {p : Port} {q : Request} {v : Verdict} (hn : s.nextRequest = some (p, q))
    (he : ∀ r : Port, ((v.effect (s.dequeue p)).port r).responses = ((s.dequeue p).port r).responses) (r : Port)
    (hs : (s.port r).responses.length ≤ 4) : ((s.carryOut p q v).port r).responses.length ≤ 4 := by
  rcases eq_or_eq_otherPort p r with rfl | rfl
  · have hroom := State.responses_of_nextRequest hn
    rw [State.port_carryOut, PortState.pushResponse_frame, he, State.port_dequeue]
    simpa using hroom
  · rw [State.port_carryOut_other]
    split
    · rw [(PortState.pushEcho_spec _ _).2.1, he, State.port_dequeue_other]
      exact hs
    · rw [he, State.port_dequeue_other]
      exact hs

/-- No event leaves more than four responses on a port (R165). -/
theorem State.Event.responses_le {s t : State} (h : s.Event t) (r : Port) (hs : (s.port r).responses.length ≤ 4) :
    (t.port r).responses.length ≤ 4 := by
  cases h with
  | idle => exact hs
  | powerOn pins => cases r <;> exact Nat.zero_le _
  | frame p bs hr =>
    rw [(State.ingress_fate (s.modPort p PortState.countReceived) p bs).port_frame r]
    rcases eq_or_eq_otherPort p r with rfl | rfl
    · simpa using hs
    · simpa using hs
  | refused p q st hn => exact State.carryOut_responses hn (fun _ => rfl) r hs
  | taken k p q a pl u hn hk hv =>
    refine State.carryOut_responses hn (fun c => ?_) r hs
    rw [Verdict.effect, (judge_effect k hv).port_frame c]
  | playout g => rw [State.playout_port_frame]; exact hs
  | feedback bs => rw [State.port_feedback]; exact hs
  | tick u => rw [State.port_tick]; exact hs
  | opening ho => cases r <;> exact hs
  | closing => cases r <;> exact hs
  | sendComplete p levels =>
    rcases hq : (s.port p).sending with _ | f
    · rw [State.sendComplete_idle levels hq]
      exact hs
    · rcases hl : f.landing with _ | k
      · have hport : (s.sendComplete p levels).port r = (s.modPort p fun x => (x.finish f).choose).port r := by
          rw [State.sendComplete_next levels hq hl]
          cases r <;> rfl
        rw [hport]
        rcases eq_or_eq_otherPort p r with rfl | rfl
        · rw [State.port_modPort, PortState.choose_responses]
          simp only [PortState.finish]
          split
          · simp only [List.length_tail]; omega
          · exact hs
        · rwa [State.port_modPort_other]
      · rw [State.sendComplete_land levels hq hl]
        cases r <;> exact Nat.zero_le _

/-! ## The law -/

theorem State.portLaw_iff (s : State) :
    s.PortLaw ↔ ∀ r : Port, (s.port r).FlowLaw ∧ (s.port r).responses.length ≤ 4 := by
  constructor
  · intro h r
    have hr : s.port r ∈ [s.portA, s.portB] := by cases r <;> simp [State.port]
    obtain ⟨⟨hq, hp, he⟩, hs⟩ := h _ hr
    exact ⟨⟨hq, he, hs⟩, hp⟩
  · intro h x hx
    obtain ⟨r, rfl⟩ : ∃ r : Port, x = s.port r := by
      simp only [List.mem_cons, List.not_mem_nil, or_false] at hx
      rcases hx with rfl | rfl
      · exact ⟨.a, rfl⟩
      · exact ⟨.b, rfl⟩
    obtain ⟨⟨hq, he, hs⟩, hp⟩ := h r
    exact ⟨⟨hq, hp, he⟩, hs⟩

theorem State.Event.keeps_ports {s t : State} (h : s.Event t) (hs : s.PortLaw) : t.PortLaw := by
  rw [State.portLaw_iff] at hs ⊢
  intro r
  exact ⟨(h.portsMove r).keeps (law := PortState.FlowLaw) (fun _ _ hm => hm.keeps_flow) (hs r).1,
    h.responses_le r (hs r).2⟩

/-- Settles O16: a take finds room for its response, and every other move of a port keeps its queues and its
transmitter within the law. -/
theorem portQueueLawsAreKept : Obligations.PortQueueLawsAreKept :=
  keptByEveryStep_of_event (fun _ _ h => h) fun _ _ he => he.keeps_ports

end Sys2Proof.Machine
end

section
/-! The class actions (R161) and the part reset in flight (R168, R169): SET_CLASS_ACTION alone replaces a class action,
under its LOCKOUT checks, and RESET_PART alone puts a reset in flight, with every group at rest. -/

namespace Sys2Proof.Machine

/-! ## The class actions of the ports (R161) -/

/-- An answer moves the upstream queues of a port, its transmitter and its counters alone (R164). -/
theorem State.carryOut_port_frame (s : State) (p : Port) (q : Request) (v : Verdict) (r : Port) :
    (s.carryOut p q v).port r = { (v.effect (s.dequeue p)).port r with
      responses := ((s.carryOut p q v).port r).responses, echoes := ((s.carryOut p q v).port r).echoes
      sending := ((s.carryOut p q v).port r).sending, ctr := ((s.carryOut p q v).port r).ctr } := by
  rcases eq_or_eq_otherPort p r with rfl | rfl
  · rw [State.port_carryOut, PortState.pushResponse_frame]
  · rw [State.port_carryOut_other]
    split
    · by_cases he : ((v.effect (s.dequeue p)).port (otherPort p)).echoes.length < 4
      · rw [PortState.pushEcho_frame _ he]
      · rw [PortState.pushEcho_full _ (Nat.not_lt.mp he)]
    · rfl

theorem ReqClass.ix_inj {c d : ReqClass} : c.ix = d.ix ↔ c = d := by
  cases c <;> cases d <;> decide

theorem PortState.actionFor_set (x : PortState) (c d : ReqClass) (a : ClassAction) :
    ({ x with actions := x.actions.set c.ix a } : PortState).actionFor d = if c = d then a else x.actionFor d := by
  simp only [PortState.actionFor, Tab.get_set, ReqClass.ix_inj]

/-- The class actions after an event: as they were, all EXECUTE, or one replaced past the LOCKOUT checks (R161). -/
theorem State.Event.actionFor {s t : State} (h : s.Event t) :
    (∀ (r : Port) (d : ReqClass), (t.port r).actionFor d = (s.port r).actionFor d)
      ∨ (∀ (r : Port) (d : ReqClass), (t.port r).actionFor d = .execute)
      ∨ ∃ (arrival r : Port) (c : ReqClass) (n : Nat) (a : ClassAction), s.lockout arrival r c n = false
          ∧ classActionOf n = some a
          ∧ (∀ d : ReqClass, (t.port r).actionFor d = if c = d then a else (s.port r).actionFor d)
          ∧ ∀ d : ReqClass, (t.port (otherPort r)).actionFor d = (s.port (otherPort r)).actionFor d := by
  have kept {u : State} (hu : ∀ r : Port, (u.port r).actions = (s.port r).actions) (r : Port) (d : ReqClass) :
      (u.port r).actionFor d = (s.port r).actionFor d := by
    rw [PortState.actionFor, hu, PortState.actionFor]
  have dequeued (p r : Port) (d : ReqClass) : ((s.dequeue p).port r).actionFor d = (s.port r).actionFor d := by
    rcases eq_or_eq_otherPort p r with rfl | rfl
    · rw [State.port_dequeue, PortState.actionFor, PortState.actionFor]
    · rw [State.port_dequeue_other]
  have answered (p : Port) (q : Request) (v : Verdict) (r : Port) (d : ReqClass) :
      ((s.carryOut p q v).port r).actionFor d = ((v.effect (s.dequeue p)).port r).actionFor d := by
    rw [State.carryOut_port_frame, PortState.actionFor, PortState.actionFor]
  cases h with
  | idle => exact .inl fun _ _ => rfl
  | powerOn pins => exact .inr (.inl fun r d => by cases r <;> exact Tab.get_fill _ _)
  | frame p bs hr =>
    refine .inl (kept fun r => ?_)
    rw [(State.ingress_fate (s.modPort p PortState.countReceived) p bs).port_frame r]
    rcases eq_or_eq_otherPort p r with rfl | rfl
    · simp
    · simp
  | refused p q st hn => exact .inl fun r d => (answered p q _ r d).trans (dequeued p r d)
  | taken k p q b pl u hn hk hv =>
    have he := judge_effect k hv
    by_cases ha : ∀ r : Port, (u.port r).actions = ((s.dequeue p).port r).actions
    · refine .inl fun r d => ((answered p q _ r d).trans ?_).trans (dequeued p r d)
      rw [Verdict.effect, PortState.actionFor, ha, PortState.actionFor]
    · cases he with
      | actions r c n a hl hc =>
        refine .inr (.inr ⟨p, r, c, n, a, ?_, hc, fun d => ?_, fun d => ?_⟩)
        · simpa only [State.lockout, dequeued] using hl
        · rw [answered, Verdict.effect, State.port_modPort, PortState.actionFor_set, dequeued]
        · rw [answered, Verdict.effect, State.port_modPort_other, dequeued]
      | policy r a n hn | portCounters r =>
        refine absurd (fun j => ?_) ha
        rcases eq_or_eq_otherPort r j with rfl | rfl
        · rw [State.port_modPort]
        · rw [State.port_modPort_other]
      | _ => exact absurd (fun j => by cases j <;> rfl) ha
  | playout g => exact .inl (kept fun r => by rw [State.playout_port_frame])
  | feedback bs => exact .inl (kept fun r => by rw [State.port_feedback])
  | tick u => exact .inl (kept fun r => by rw [State.port_tick])
  | opening ho => exact .inl (kept fun r => by cases r <;> rfl)
  | closing => exact .inl (kept fun r => by cases r <;> rfl)
  | sendComplete p levels =>
    rcases hq : (s.port p).sending with _ | f
    · rw [State.sendComplete_idle levels hq]
      exact .inl fun _ _ => rfl
    · rcases hl : f.landing with _ | k
      · refine .inl (kept fun r => ?_)
        have hport : (s.sendComplete p levels).port r = (s.modPort p fun x => (x.finish f).choose).port r := by
          rw [State.sendComplete_next levels hq hl]
          cases r <;> rfl
        rw [hport]
        rcases eq_or_eq_otherPort p r with rfl | rfl
        · rw [State.port_modPort, PortState.choose_actions, PortState.finish_actions]
        · rw [State.port_modPort_other]
      · rw [State.sendComplete_land levels hq hl]
        exact .inr (.inl fun r d => by cases r <;> exact Tab.get_fill _ _)

theorem State.lockoutLaw_iff (s : State) : s.LockoutLaw ↔ ∀ r : Port, (s.port r).actionFor .supervision = .execute
    ∧ ¬ ((s.port r).actionFor .device = .discard ∧ (s.port (otherPort r)).actionFor .device = .discard) := by
  constructor
  · rintro ⟨ha, hb, hd⟩ r
    cases r
    · exact ⟨ha, hd⟩
    · exact ⟨hb, fun h => hd h.symm⟩
  · exact fun h => ⟨(h .a).1, (h .b).1, (h .a).2⟩

/-- What the LOCKOUT checks let through (R161). -/
theorem State.lockout_eq_false {s : State} {arrival r : Port} {c : ReqClass} {n : Nat} (h : s.lockout arrival r c n = false) :
    (c = .supervision → n = 0)
      ∧ (c = .device → n = 2 → r ≠ arrival ∧ (s.port (otherPort r)).actionFor .device ≠ .discard) := by
  simp only [State.lockout, discardCode, Bool.or_eq_false_iff, Bool.and_eq_false_iff, decide_eq_false_iff_not] at h
  obtain ⟨hs, hd⟩ := h
  refine ⟨fun hc => ?_, fun hc hn => ?_⟩
  · simpa [hc] using hs
  · simpa [hc, hn] using hd

theorem classActionOf_discard {n : Nat} (h : classActionOf n = some .discard) : n = 2 := by
  unfold classActionOf at h
  split at h <;> simp_all

theorem State.Event.keeps_lockout {s t : State} (h : s.Event t) (hs : s.LockoutLaw) : t.LockoutLaw := by
  rw [State.lockoutLaw_iff] at hs ⊢
  rcases h.actionFor with he | he | ⟨arrival, r, c, n, a, hl, ha, hr, ho⟩
  · simpa only [he] using hs
  · simp [he]
  · obtain ⟨hsup, hdev⟩ := State.lockout_eq_false hl
    have sup : (if c = .supervision then a else (s.port r).actionFor .supervision) = .execute := by
      split
      · next hc =>
        rw [hsup hc] at ha
        exact (Option.some.inj ha).symm
      · exact (hs r).1
    have dev : ¬ ((if c = .device then a else (s.port r).actionFor .device) = .discard
        ∧ (s.port (otherPort r)).actionFor .device = .discard) := by
      split
      · next hc =>
        rintro ⟨rfl, hd⟩
        exact (hdev hc (classActionOf_discard ha)).2 hd
      · exact (hs r).2
    intro j
    rcases eq_or_eq_otherPort r j with rfl | rfl
    · rw [hr, hr, ho]
      exact ⟨sup, dev⟩
    · rw [otherPort_otherPort, hr, ho, ho]
      exact ⟨(hs _).1, fun hd => dev hd.symm⟩

/-- Settles O17: the LOCKOUT checks guard the one event that replaces a class action. -/
theorem lockoutLawIsKept : Obligations.LockoutLawIsKept :=
  keptByEveryStep_of_event (fun _ _ h => h) fun _ _ he => he.keeps_lockout

/-! ## A group at rest (R169) -/

/-- A group in IDLE or FAULTED. -/
abbrev Group.Resting (x : Group) : Prop := x.state = .idle ∨ x.state = .faulted

theorem Group.Resting.not_live {x : Group} (h : x.Resting) : x.state.live = false ∧ x.state.running = false := by
  rcases h with h | h <;> rw [h] <;> exact ⟨rfl, rfl⟩

theorem Group.Resting.not_entersTarget {x : Group} (h : x.Resting) (hx : x.state.entersTarget = true) : False := by
  rcases h with h | h <;> rw [h] at hx <;> cases hx

theorem Group.Resting.not_parkable {x : Group} (h : x.Resting) (hx : x.state.live = true ∨ x.state = .parking) : False := by
  rcases h with h | h <;> simp [h, GState.live] at hx

theorem Group.Completion.keeps_resting {x y : Group} {r : GenRun} {w i : Bool} (h : x.Completion r w i y)
    (hx : x.Resting) : y.Resting := by
  obtain ⟨-, hrun⟩ := hx.not_live
  cases h with
  | stay | ticked => exact hx
  | burst h | ended h => simp [hrun] at h
  | risen h | faded h | parked h | resumed h => simp [Group.Resting, h] at hx

/-- No move takes a group out of IDLE and FAULTED: ARM alone does. -/
theorem Group.Move.keeps_resting {x y : Group} (h : x.Move y) (hx : x.Resting) : y.Resting := by
  obtain ⟨hlive, hrun⟩ := hx.not_live
  cases h with
  | fresh => exact .inl rfl
  | obtain => rwa [Group.Resting, x.obtain_sameEpisode.1]
  | countSince => rwa [Group.Resting, x.countSince_sameEpisode.1]
  | complete r w i => exact (x.complete_completion r w i).keeps_resting hx
  | decimate => rwa [Group.Resting, x.decimate_sameEpisode.1]
  | trip ev hev =>
    exact Group.trip_keeps (law := Group.Resting) (fun _ _ _ h => h) (fun _ _ _ h => h) (fun _ _ _ _ h => h)
      (fun _ ht h => (h.not_entersTarget ht).elim) (fun _ _ _ => .inr rfl)
      (fun _ ht h => (h.not_parkable (.inl ht)).elim) (fun _ ht h => (h.not_parkable ht).elim) ev hx
  | interlockTrip =>
    exact Group.interlockTrip_keeps (law := Group.Resting) (fun _ _ _ h => h) (fun _ _ _ _ h => h)
      (fun _ _ => .inr rfl) hx
  | arrive i seq slots h => rwa [Group.Resting, (x.arrive_sameEpisode seq slots).1]
  | disarm hs => exact .inl rfl
  | start hs | genStart hs => simp [Group.Resting, hs] at hx
  | stop =>
    rcases x.stopRun_cases with ⟨h, -⟩ | ⟨-, h⟩
    · simp [hrun] at h
    · rwa [h]
  | abort y h =>
    rcases Group.abortRun_cases h with ⟨h, -⟩ | ⟨h, -⟩ | ⟨h, -⟩ | ⟨h, -⟩
    · simp [hlive] at h
    · simp [Group.Resting, h] at hx
    · simp [Group.Resting, h] at hx
    · simp [Group.Resting, h] at hx
  | clearFaults w i =>
    rcases x.clearFaults_cases w i with h | ⟨-, h | ⟨h, -⟩⟩
    · rw [h]; exact hx
    · rw [h]; exact .inl rfl
    · simp [Group.Resting, h] at hx
  | _ => exact hx

/-! ## The part reset in flight (R168, R169) -/

theorem State.allResting_iff (s : State) : s.allResting = true ↔ s.EachGroup Group.Resting := by
  simp only [State.allResting, List.all_eq_true, Bool.or_eq_true, decide_eq_true_eq]
  exact ⟨fun h g => h g (mem_groupList g), fun h g _ => h g⟩

/-- While a reset is in flight nothing is taken, so no group is armed (R169). -/
theorem State.Event.groupsMove_of_reset {s t : State} (h : s.Event t) (hr : s.resetInFlight = true) : s.GroupsMove t := by
  have untaken {p : Port} {q : Request} (hn : s.nextRequest = some (p, q)) : False := by
    simp [(State.ready_of_nextRequest hn).2] at hr
  cases h with
  | idle => exact .of_groups rfl
  | powerOn pins => exact .fresh rfl
  | frame p bs hf => simp [hr] at hf
  | refused p q st hn => exact (untaken hn).elim
  | taken k p q a pl u hn hk hv => exact (untaken hn).elim
  | playout g => exact .playout s g
  | feedback bs => exact .feedback s bs
  | tick u => exact .tick s u
  | opening ho =>
    intro g
    simp only [State.group, State.driveLines_groups, Tab.get_map]
    exact .move .interlockTrip
  | closing => exact .of_groups rfl
  | sendComplete p levels => exact .sendComplete s p levels

/-- A reset is in flight after an event where it was before it, or where a RESET_PART has found every group at rest
(R168). -/
theorem State.Event.resetInFlight {s t : State} (h : s.Event t) (ht : t.resetInFlight = true) :
    s.resetInFlight = true ∨ t.groups = s.groups ∧ s.allResting = true := by
  cases h with
  | idle | closing => exact .inl ht
  | powerOn pins => cases ht
  | frame p bs hf =>
    rw [(State.ingress_fate (s.modPort p PortState.countReceived) p bs).frame] at ht
    exact .inl (by simpa using ht)
  | refused p q st hn => exact .inl (by simpa using ht)
  | taken k p q a pl u hn hk hv =>
    rw [State.carryOut_take_resetInFlight] at ht
    cases judge_effect k hv with
    | reset hr =>
      refine .inr ⟨by simp, ?_⟩
      simpa only [State.allResting_iff, State.EachGroup, State.group_dequeue] using hr
    | _ => exact .inl (by simpa using ht)
  | playout g => rw [State.playout_frame] at ht; exact .inl ht
  | feedback bs => rw [State.feedback_frame] at ht; exact .inl ht
  | tick u => rw [State.tick_frame] at ht; exact .inl ht
  | opening ho => exact .inl ht
  | sendComplete p levels =>
    rcases s.sendComplete_cases p levels with h | ⟨u, k, h⟩
    · rw [h] at ht; exact .inl ht
    · rw [h] at ht; cases ht

theorem State.Event.keeps_reset {s t : State} (h : s.Event t) (hs : s.ResetLaw) : t.ResetLaw := by
  intro ht g
  rcases h.resetInFlight ht with hr | ⟨hg, hr⟩
  · exact (h.groupsMove_of_reset hr g).keeps (law := Group.Resting) (fun _ _ hm => hm.keeps_resting) (hs hr g)
  · rw [State.group, hg]
    exact s.allResting_iff.mp hr g

/-- Settles O20: RESET_PART finds every group at rest, and while its reset is in flight no group is armed. -/
theorem noGroupMovesDuringAReset : Obligations.NoGroupMovesDuringAReset :=
  keptByEveryStep_of_event (fun _ _ h => h) fun _ _ he => he.keeps_reset

end Sys2Proof.Machine
end

section
/-! The executor's take (R157 to R159, R162 to R165, R168): the arbiter's choice, and the one event by which a request is
answered and echoed, whatever its verdict. -/

namespace Sys2Proof.Machine

/-! ## The arbiter (R163) -/

theorem State.ready_iff (s : State) (p : Port) : s.ready p = true ↔ ∃ (q : Request) (rest : List Request),
    (s.port p).requests = q :: rest ∧ (s.port p).responses.length < 4
      ∧ (q.kind = some .resetPart → (s.port (otherPort p)).responses = []) := by
  unfold State.ready
  split
  · next h => simp [h]
  · next q rest h =>
    have himp : q.kind ≠ some .resetPart ∨ (s.port (otherPort p)).responses = []
        ↔ (q.kind = some .resetPart → (s.port (otherPort p)).responses = []) := by tauto
    simp only [Bool.and_eq_true, Bool.or_eq_true, decide_eq_true_eq, List.isEmpty_iff, himp, h, List.cons.injEq]
    exact ⟨fun hr => ⟨q, rest, ⟨rfl, rfl⟩, hr⟩, fun ⟨_, _, ⟨hq, _⟩, hr⟩ => hq ▸ hr⟩

theorem State.nextRequest_reset {s : State} (h : s.resetInFlight = true) : s.nextRequest = none := by
  simp [State.nextRequest, State.nextPort, h]

theorem State.nextRequest_idle {s : State} (h : ∀ p : Port, s.ready p = false) : s.nextRequest = none := by
  simp [State.nextRequest, State.nextPort, h]

/-- A ready port is served where it is preferred, or where the preferred port is not ready (R163). -/
theorem State.nextRequest_served {s : State} {p : Port} {q : Request} {rest : List Request}
    (hr : s.resetInFlight = false) (hq : (s.port p).requests = q :: rest) (hp : s.ready p = true)
    (hs : p = s.preferred ∨ s.ready s.preferred = false) : s.nextRequest = some (p, q) := by
  have hnext : s.nextPort = some p := by
    rcases eq_or_eq_otherPort s.preferred p with rfl | rfl
    · simp [State.nextPort, hr, hp]
    · have hpref : s.ready s.preferred = false := hs.resolve_left (otherPort_ne _)
      simp [State.nextPort, hr, hp, hpref]
  simp [State.nextRequest, hnext, hq]

/-! ## The row of the request that the executor takes -/

/-- The row of the request's kind carries it out as judged, a wrong operand length before all else. -/
theorem exec_row_taken {k : ReqKind} {s : State} {p : Port} {q : Request} (hn : s.nextRequest = some (p, q))
    (hk : q.kind = some k) :
    exec k.row s = .next (s.carryOut p q (judgeLength k q (k.judge p q (s.dequeue p)))) := by
  rw [exec_row, takeRequest]
  simp only [hn, hk, if_true]

theorem exec_undefinedOpcode {s : State} {p : Port} {q : Request} (hn : s.nextRequest = some (p, q))
    (hk : q.kind = none) : exec .undefinedOpcodeRequest s = .next (s.carryOut p q (.refuse .badOpcode)) := by
  simp only [exec, execUndefinedOpcodeRequest, hn, hk, if_true]

/-- The verdict that the executor reaches on a request: BAD_OPCODE, or its kind's own on operands of the right length. -/
abbrev State.Reaches (s : State) (p : Port) (q : Request) (v : Verdict) : Prop :=
  q.kind = none ∧ v = .refuse .badOpcode
    ∨ ∃ k : ReqKind, q.kind = some k ∧ v = judgeLength k q (k.judge p q (s.dequeue p))

theorem judgeLength_take {k : ReqKind} {q : Request} {v : Verdict} {adjusted : Bool} {payload : List Byte} {t : State}
    (h : judgeLength k q v = .take adjusted payload t) : q.operands.length = k.length ∧ v = .take adjusted payload t := by
  unfold judgeLength at h
  split at h
  · next hl => exact ⟨hl, h⟩
  · cases h

/-- A verdict that takes the request is its kind's own. -/
theorem State.Reaches.judged {s t : State} {p : Port} {q : Request} {adjusted : Bool} {payload : List Byte}
    (h : s.Reaches p q (.take adjusted payload t)) : ∃ k : ReqKind, q.kind = some k ∧ q.operands.length = k.length
      ∧ k.judge p q (s.dequeue p) = .take adjusted payload t := by
  rcases h with ⟨-, hv⟩ | ⟨k, hk, hv⟩
  · cases hv
  · obtain ⟨hl, hj⟩ := judgeLength_take hv.symm
    exact ⟨k, hk, hl, hj⟩

/-! ## The event -/

/-- A take leaves every block but the ports as its effect has it. -/
theorem State.carryOut_frame (s : State) (p : Port) (q : Request) (v : Verdict) :
    s.carryOut p q v = { v.effect (s.dequeue p) with
      portA := (s.carryOut p q v).portA, portB := (s.carryOut p q v).portB } := by
  unfold State.carryOut State.echo
  split <;> cases p <;> rfl

/-- An effect leaves the port order and the strap store. -/
theorem State.Effect.preferred_straps {s t : State} {p : Port} (h : s.Effect p t) :
    t.preferred = s.preferred ∧ t.straps = s.straps := by
  cases h with
  | policy r a n hn | actions r c n a hl ha | portCounters r => simp
  | _ => exact ⟨rfl, rfl⟩

/-- What a verdict that the executor can reach leaves of what a take reads: its ports but for their policy, class actions
and counters, the port order and the straps. -/
theorem State.Reaches.leaves {s : State} {p : Port} {q : Request} {v : Verdict} (h : s.Reaches p q v) :
    (v.effect (s.dequeue p)).preferred = otherPort p ∧ (v.effect (s.dequeue p)).straps = s.straps
      ∧ ∀ r : Port, (v.effect (s.dequeue p)).port r = { (s.dequeue p).port r with
          policy := ((v.effect (s.dequeue p)).port r).policy, actions := ((v.effect (s.dequeue p)).port r).actions
          ctr := ((v.effect (s.dequeue p)).port r).ctr } := by
  cases v with
  | refuse st => exact ⟨rfl, State.dequeue_straps s p, fun _ => rfl⟩
  | take a pl u =>
    obtain ⟨k, -, -, hj⟩ := h.judged
    have he := judge_effect k hj
    obtain ⟨hpref, hstraps⟩ := he.preferred_straps
    exact ⟨hpref, hstraps.trans (State.dequeue_straps s p), he.port_frame⟩

theorem State.Reaches.carryOut_preferred {s : State} {p : Port} {q : Request} {v : Verdict} (h : s.Reaches p q v) :
    (s.carryOut p q v).preferred = otherPort p := by
  rw [State.carryOut_frame]
  exact h.leaves.1

/-- Settles O21: the choice by the readiness of the two ports, and the port order after every take. -/
theorem arbiterServesThePreferredReadyPort : Obligations.ArbiterServesThePreferredReadyPort := by
  intro s
  refine ⟨s.ready_iff, State.nextRequest_reset, fun hr q rest p => State.nextRequest_served hr, State.nextRequest_idle,
    fun p q hn => ⟨fun k hk => ?_, fun hk => ?_⟩, fun _ _ => rfl⟩
  · exact ⟨_, exec_row_taken hn hk, State.Reaches.carryOut_preferred (.inr ⟨k, hk, rfl⟩)⟩
  · exact ⟨_, exec_undefinedOpcode hn hk, State.Reaches.carryOut_preferred (.inl ⟨hk, rfl⟩)⟩

/-! ## The transmitter beside a response and an echo (R181) -/

theorem PortState.pushResponse_busy {x : PortState} (r : QResponse) (h : x.sending ≠ none) :
    (x.pushResponse r).sending = x.sending := by
  obtain ⟨f, hf⟩ := Option.ne_none_iff_exists'.mp h
  rw [PortState.pushResponse, PortState.choose_busy (p := { x with responses := x.responses ++ [r] }) hf]

theorem PortState.pushResponse_free {x : PortState} (r : QResponse) (h : x.sending = none) (hr : x.responses = []) :
    (x.pushResponse r).sending = some { frame := r.frame, source := .response, landing := r.landing } := by
  have hq : x.responses ++ [r] = [r] := by simp [hr]
  rw [PortState.pushResponse, PortState.choose_response (p := { x with responses := x.responses ++ [r] }) h hq]

theorem PortState.pushEcho_room {x : PortState} (e : UpFrame) (h : x.echoes.length < 4) :
    x.pushEcho e = ({ x with echoes := x.echoes ++ [e] } : PortState).choose := if_pos h

theorem PortState.pushEcho_busy {x : PortState} (e : UpFrame) (hl : x.echoes.length < 4) (h : x.sending ≠ none) :
    (x.pushEcho e).sending = x.sending := by
  obtain ⟨f, hf⟩ := Option.ne_none_iff_exists'.mp h
  rw [PortState.pushEcho_room e hl, PortState.choose_busy (p := { x with echoes := x.echoes ++ [e] }) hf]

theorem PortState.pushEcho_free {x : PortState} (e : UpFrame) (h : x.sending = none) (hr : x.responses = [])
    (he : x.echoes = []) : (x.pushEcho e).sending = some { frame := e, source := .echo, landing := none } := by
  have hq : x.echoes ++ [e] = [e] := by simp [he]
  rw [PortState.pushEcho_room e (by simp [he]), PortState.choose_echo (p := { x with echoes := x.echoes ++ [e] }) h hr hq]

/-! ## The answer of a taken request (R157, R158, R168) -/

/-- The response to a taken request, written out. -/
theorem takenResponse_eq (straps : Straps) (q : Request) (adjusted : Bool) (payload : List Byte) (t : State) :
    ({ frame := responseFrame straps q (Verdict.take adjusted payload t).status payload
       landing := landingOf q (.take adjusted payload t) } : QResponse) =
      { frame := { tag := q.cls.tag, kind := .response, unit := straps.unitId, origin := .a, ident := q.id,
                   status := if adjusted then 0x01#8 else 0x00#8, payload := payload }
        landing := if q.kind = some .resetPart then
          (match natAt8 q.operands 0 with | 0 => some .reload | 1 => some .resample | _ => none) else none } := by
  cases adjusted <;> rfl

/-- The echo of a taken request, written out. -/
theorem takenEcho_eq (straps : Straps) (p : Port) (q : Request) (adjusted : Bool) (payload : List Byte) (t : State) :
    echoFrame straps p q (Verdict.take adjusted payload t).status =
      { tag := q.cls.tag, kind := .echo, unit := straps.unitId, origin := p, ident := q.id,
        status := if adjusted then 0x01#8 else 0x00#8, payload := q.opcode :: q.operands } := by
  cases adjusted <;> rfl

/-- Settles O23: the response joins the arrival port's queue and the echo the other port's, and no other block moves. -/
theorem takenRequestAnswersItsPayload : Obligations.TakenRequestAnswersItsPayload := by
  intro s p q adjusted payload t u r e hu hr he
  have hp : u.port p = (t.port p).pushResponse r := by
    rw [hu, State.port_carryOut, hr]
    exact congrArg _ (takenResponse_eq t.straps q adjusted payload t)
  have ho : u.port (otherPort p) = if q.action = .executeEcho ∧ q.kind ≠ some .resetPart then
      (t.port (otherPort p)).pushEcho e else t.port (otherPort p) := by
    rw [hu, State.port_carryOut_other, he, ← takenEcho_eq t.straps p q adjusted payload t]
    rfl
  rw [hp, ho]
  refine ⟨?_, PortState.pushResponse_frame _ r, PortState.pushResponse_busy r, PortState.pushResponse_free r,
    fun hno => ?_, fun ha hk => ?_⟩
  · rw [hu]
    exact State.carryOut_frame s p q _
  · rw [if_neg (by tauto)]
  · rw [if_pos ⟨ha, hk⟩]
    exact ⟨PortState.pushEcho_full e, fun hl => ⟨PortState.pushEcho_frame e hl, PortState.pushEcho_busy e hl,
      PortState.pushEcho_free e⟩⟩

/-- Settles O24: a refusal's effect is the take alone. -/
theorem refusedRequestChangesNoBlock : Obligations.RefusedRequestChangesNoBlock := by
  refine ⟨fun s p q hn hk => exec_undefinedOpcode hn hk, fun k s p q hn hk hl => ?_, fun s p q st => ⟨_, rfl, ?_, ?_, ?_, ?_⟩⟩
  · rw [exec_row, takeRequest_badLength _ hn hk hl]
  · rw [State.carryOut_frame]
    cases p <;> rfl
  · rw [State.port_carryOut, Verdict.effect, State.port_dequeue, State.dequeue_straps, PortState.pushResponse_frame]
    rfl
  · rw [State.port_carryOut_other, Verdict.effect, State.port_dequeue_other]
    split
    · by_cases hl : (s.port (otherPort p)).echoes.length < 4
      · rw [PortState.pushEcho_frame _ hl]
      · rw [PortState.pushEcho_full _ (Nat.not_lt.mp hl)]
    · rfl
  · intro hno
    rw [State.port_carryOut_other, if_neg (by tauto)]
    exact State.port_dequeue_other s p

end Sys2Proof.Machine
end

section
/-! Every take is answered once (R157, R164, R165): the length of the payloads, the counters of the ports under each
request's effect, and the one response and one echo at most of a take. -/

namespace Sys2Proof.Machine

/-! ## The length of the payloads (R157) -/

@[simp] theorem out8_length (n : Nat) : (out8 n).length = 1 := rfl
@[simp] theorem outWord_length (w : BitVec 16) : (outWord w).length = 2 := rfl
@[simp] theorem out16_length (n : Nat) : (out16 n).length = 2 := rfl
@[simp] theorem out24_length (n : Nat) : (out24 n).length = 3 := rfl
@[simp] theorem out32_length (n : Nat) : (out32 n).length = 4 := rfl
@[simp] theorem outBool_length (b : Bool) : (outBool b).length = 1 := rfl
@[simp] theorem outOptWord_length (w : Option (BitVec 16)) : (outOptWord w).length = 3 := by cases w <;> rfl

@[simp] theorem identifyPayload_length (s : State) : (identifyPayload s).length = 6 := rfl
@[simp] theorem statusPayload_length (s : State) : (statusPayload s).length = 13 := by
  simp [statusPayload, groupList]
@[simp] theorem mapEntryPayload_length (s : State) (i : MapIx) : (mapEntryPayload s i).length = 12 := by
  simp [mapEntryPayload]
@[simp] theorem policyPayload_length (p : Port) (x : PortPolicy) : (policyPayload p x).length = 4 := rfl
@[simp] theorem profilePayload_length (n : Nat) (x : Profile) : (profilePayload n x).length = 16 := by
  simp [profilePayload]
@[simp] theorem limitSetPayload_length (i : SetIx) (ls : LimitSet) : (limitSetPayload i ls).length = 18 := by
  simp [limitSetPayload, limitMonPayload]
@[simp] theorem configPayload_length (g : GroupIx) (c : GroupConfig) : (configPayload g c).length = 33 := by
  simp [configPayload_eq]
@[simp] theorem genPayload_length (g : GroupIx) (c : GenConfig) : (genPayload g c).length = 12 := by
  simp [genPayload]
@[simp] theorem groupStatusPayload_length (x : Group) : (groupStatusPayload x).length = 39 := by
  simp [groupStatusPayload, lanes]
@[simp] theorem firstTripPayload_length (free : Du) (f : Option FirstTrip) : (firstTripPayload free f).length = 9 := by
  cases f <;> simp [firstTripPayload]
@[simp] theorem faultsPayload_length (free : Du) (x : Group) : (faultsPayload free x).length = 21 := by
  simp [faultsPayload, lanes]
@[simp] theorem clearFaultsPayload_length (s : State) : (clearFaultsPayload s).length = 20 := by
  simp [clearFaultsPayload, groupList]
@[simp] theorem PortCounters.payload_length (c : PortCounters) : c.payload.length = 44 := by
  simp [PortCounters.payload]
@[simp] theorem groupStatsPayload_length (x : Group) : (groupStatsPayload x).length = 65 := by
  simp [groupStatsPayload, GroupCounters.payload]
@[simp] theorem channelStatsPayload_length (c : Channel) : (channelStatsPayload c).length = 12 := by
  simp [channelStatsPayload]
@[simp] theorem ServoCounters.payload_length (c : ServoCounters) : c.payload.length = 12 := by
  simp [ServoCounters.payload]
@[simp] theorem classActionsPayload_length (s : State) : (classActionsPayload s).length = 14 := by
  simp [classActionsPayload, classList]

/-- No verdict carries a payload of more than 240 bytes (R157): a read's has its fixed length, and any other is empty. -/
theorem judge_payload_length (k : ReqKind) (p : Port) (q : Request) (s : State) :
    (k.judge p q s).payload.length ≤ 240 := by
  cases k with
  | identify | readStatus | readMapEntry | readPortPolicy | readProfile | readLimitSet | readGroupConfig | genConfig
  | readGroupStatus | readFaults | clearFaults | readPortStats | readGroupStats | readChannelStats | readServoStats
  | readClassActions =>
    simp only [ReqKind.judge, judgeIdentify, judgeReadStatus, judgeReadMapEntry, judgeReadPortPolicy,
      judgeReadProfile, judgeReadLimitSet, judgeReadGroupConfig, judgeGenConfig, judgeReadGroupStatus, judgeReadFaults,
      judgeClearFaults, judgeReadPortStats, judgeReadGroupStats, judgeReadChannelStats, judgeReadServoStats,
      judgeReadClassActions, onGroup]
    repeat' split
    all_goals simp [Verdict.payload]
  | _ =>
    simp only [ReqKind.judge, judgeKeepalive, judgeWriteMapEntry, judgeClearMapEntry, judgeWritePortPolicy,
      judgeWriteProfile, judgeWriteLimitSet, judgeWriteGroupConfig, judgeSetRate, judgeArm, judgeDisarm, judgeStart,
      judgeStop, judgeAbort, judgeSetLevel, judgeGenStart, judgeSetAlertMask, judgeSetWatchdog, judgeForceWatchdog,
      judgeSetClassAction, judgeResetPart, onGroup]
    repeat' split
    all_goals exact Nat.zero_le _

/-! ## The counters of the ports (R178) -/

/-- The counters of every port, as they were. -/
abbrev State.SamePortCounters (s t : State) : Prop := ∀ r : Port, (t.port r).ctr = (s.port r).ctr

theorem State.SamePortCounters.of_ports {s t : State} (ha : t.portA = s.portA) (hb : t.portB = s.portB) :
    s.SamePortCounters t := by
  intro r
  cases r
  · exact congrArg PortState.ctr ha
  · exact congrArg PortState.ctr hb

theorem State.SamePortCounters.modPort (s : State) (p : Port) {f : PortState → PortState}
    (h : (f (s.port p)).ctr = (s.port p).ctr) : s.SamePortCounters (s.modPort p f) := by
  intro r
  rcases eq_or_eq_otherPort p r with rfl | rfl
  · rwa [State.port_modPort]
  · rw [State.port_modPort_other]

/-- READ_PORT_STATS alone moves a port's counters (R178). -/
theorem judge_portCounters {k : ReqKind} (hk : k ≠ .readPortStats) (p : Port) (q : Request) (s : State) :
    s.SamePortCounters ((k.judge p q s).effect s) := by
  have same : s.SamePortCounters s := fun _ => rfl
  cases k with
  | readPortStats => exact absurd rfl hk
  | writePortPolicy =>
    simp only [ReqKind.judge, judgeWritePortPolicy]
    repeat' split
    · exact same
    · exact same
    · rw [Verdict.effect]
      exact .modPort s _ rfl
    · exact same
  | setClassAction =>
    simp only [ReqKind.judge, judgeSetClassAction]
    repeat' split
    · exact same
    · exact same
    · rw [Verdict.effect]
      exact .modPort s _ rfl
    · exact same
  | _ =>
    simp only [ReqKind.judge, judgeIdentify, judgeKeepalive, judgeReadStatus, judgeWriteMapEntry, judgeReadMapEntry,
      judgeClearMapEntry, judgeReadPortPolicy, judgeWriteProfile, judgeReadProfile, judgeWriteLimitSet,
      judgeReadLimitSet, judgeWriteGroupConfig, judgeReadGroupConfig, judgeSetRate, judgeGenConfig, judgeArm,
      judgeDisarm, judgeStart, judgeStop, judgeAbort, judgeSetLevel, judgeGenStart, judgeReadGroupStatus,
      judgeReadFaults, judgeClearFaults, judgeSetAlertMask, judgeSetWatchdog, judgeForceWatchdog, judgeReadGroupStats,
      judgeReadChannelStats, judgeReadServoStats, judgeReadClassActions, judgeResetPart, onGroup]
    repeat' split
    all_goals exact .of_ports rfl rfl

theorem portOf_some {n : Nat} {r : Port} (h : portOf n = some r) : n = portCode r := by
  unfold portOf at h
  split at h <;> cases h <;> rfl

theorem clearOf_true {n : Nat} (h : clearOf n = some true) : n = 1 := by
  unfold clearOf at h
  split at h <;> simp_all

/-- READ_PORT_STATS leaves the device as it stands, or clears the counters of the port its operands name (R178). -/
theorem judgeReadPortStats_take {p : Port} {q : Request} {s t : State} {adjusted : Bool} {payload : List Byte}
    (h : judgeReadPortStats p q s = .take adjusted payload t) : t = s
      ∨ ∃ r : Port, natAt8 q.operands 0 = portCode r ∧ natAt8 q.operands 1 = 1
        ∧ t = s.modPort r fun x => { x with ctr := defaultPortCounters } := by
  unfold judgeReadPortStats at h
  split at h
  · cases h
  · next r hr =>
    split at h
    · cases h
    · next clear hc =>
      cases h
      cases clear
      · exact .inl rfl
      · exact .inr ⟨r, portOf_some hr, clearOf_true hc, rfl⟩

/-- The operands that ask READ_PORT_STATS to clear a port's counters (R178). -/
abbrev clearingOperands (r : Port) : List Byte := [BitVec.ofNat 8 (portCode r), 1]

theorem operands_eq_clearing {ops : List Byte} {r : Port} (hl : ops.length = 2) (h0 : natAt8 ops 0 = portCode r)
    (h1 : natAt8 ops 1 = 1) : ops = clearingOperands r := by
  obtain ⟨a, b, rfl⟩ := List.length_eq_two.mp hl
  have ha : a = BitVec.ofNat 8 (portCode r) := by
    rw [← h0, natAt8, byteAt_zero, BitVec.ofNat_toNat, BitVec.setWidth_eq]
  have hb : b = 1 := BitVec.eq_of_toNat_eq h1
  rw [ha, hb]

theorem judgeReadPortStats_clearing (p : Port) {q : Request} (s : State) {r : Port} (h : q.operands = clearingOperands r) :
    judgeReadPortStats p q s =
      .take false (s.port r).ctr.payload (s.modPort r fun x => { x with ctr := defaultPortCounters }) := by
  rw [judgeReadPortStats, h]
  cases r <;> rfl

/-- The count of dropped echoes that a take goes on from: 0 where the request has cleared it (R164, R178). -/
theorem State.Reaches.echoDropped {s : State} {p : Port} {q : Request} {v : Verdict} (h : s.Reaches p q v) :
    ((v.effect (s.dequeue p)).port (otherPort p)).ctr.echoDropped =
      if q.kind = some .readPortStats ∧ q.operands = clearingOperands (otherPort p) then 0
      else (s.port (otherPort p)).ctr.echoDropped := by
  have hdequeue : (s.dequeue p).port (otherPort p) = s.port (otherPort p) := State.port_dequeue_other s p
  split
  · next hc =>
    obtain ⟨hk, hops⟩ := hc
    rcases h with ⟨hn, -⟩ | ⟨k, hk', rfl⟩
    · simp [hk] at hn
    · obtain rfl : k = .readPortStats := Option.some.inj (hk'.symm.trans hk)
      have hl : q.operands.length = ReqKind.readPortStats.length := by rw [hops]; rfl
      rw [judgeLength, if_pos hl, ReqKind.judge, judgeReadPortStats_clearing p _ hops, Verdict.effect,
        State.port_modPort]
      rfl
  · next hc =>
    cases v with
    | refuse st => rw [Verdict.effect, hdequeue]
    | take a pl u =>
      obtain ⟨k, hk, hl, hj⟩ := h.judged
      by_cases hstats : k = .readPortStats
      · subst hstats
        rcases judgeReadPortStats_take (p := p) hj with rfl | ⟨r, h0, h1, rfl⟩
        · rw [Verdict.effect, hdequeue]
        · have hops := operands_eq_clearing hl h0 h1
          rcases eq_or_eq_otherPort p r with rfl | rfl
          · rw [Verdict.effect, State.port_modPort_other, hdequeue]
          · exact absurd ⟨hk, hops⟩ hc
      · have hs := judge_portCounters hstats p q (s.dequeue p) (otherPort p)
        rw [hj] at hs
        rw [hs, hdequeue]

/-! ## The answer (R157, R164) -/

theorem State.Reaches.payload_length {s : State} {p : Port} {q : Request} {v : Verdict} (h : s.Reaches p q v) :
    v.payload.length ≤ 240 := by
  cases v with
  | refuse st => exact Nat.zero_le _
  | take a pl u =>
    obtain ⟨k, -, -, hj⟩ := h.judged
    rw [← hj]
    exact judge_payload_length k p q _

/-- A verdict that is neither OK nor ADJUSTED answers an empty payload (R157). -/
theorem Verdict.payload_of_refused {v : Verdict} (hok : v.status ≠ .ok) (hadj : v.status ≠ .adjusted) :
    v.payload = [] := by
  cases v with
  | refuse st => rfl
  | take adjusted pl u =>
    cases adjusted
    · exact absurd rfl hok
    · exact absurd rfl hadj

/-- The row that takes the executor's next request carries it out with the verdict that the executor reaches. -/
theorem exec_reaches {row : Instr} {s : State} {p : Port} {q : Request} (hn : s.nextRequest = some (p, q))
    (hrow : row = (match q.kind with | some k => k.row | none => .undefinedOpcodeRequest)) :
    ∃ v : Verdict, exec row s = .next (s.carryOut p q v) ∧ s.Reaches p q v := by
  rcases hk : q.kind with _ | k
  · obtain rfl : row = .undefinedOpcodeRequest := by rw [hrow, hk]
    exact ⟨_, exec_undefinedOpcode hn hk, .inl ⟨hk, rfl⟩⟩
  · obtain rfl : row = k.row := by rw [hrow, hk]
    exact ⟨_, exec_row_taken hn hk, .inr ⟨k, hk, rfl⟩⟩

/-- Settles O22: the two ports of a take, as its response and its echo leave them. -/
theorem everyTakenRequestIsAnsweredOnce : Obligations.EveryTakenRequestIsAnsweredOnce := by
  intro row s p q dropped hn hrow hdrop
  obtain ⟨v, hexec, hv⟩ := exec_reaches hn hrow
  obtain ⟨hpref, hstraps, hports⟩ := hv.leaves
  have hself := hports p
  have hother := hports (otherPort p)
  rw [State.port_dequeue] at hself
  rw [State.port_dequeue_other] at hother
  have hdropped : ((v.effect (s.dequeue p)).port (otherPort p)).ctr.echoDropped = dropped :=
    hv.echoDropped.trans hdrop.symm
  have hpush := State.port_carryOut s p q v
  have hecho := State.port_carryOut_other s p q v
  rw [hstraps] at hpush hecho
  refine ⟨s.carryOut p q v, v.status, v.payload, hexec, hv.payload_length, ?_, ?_, hv.carryOut_preferred, ?_,
    Verdict.payload_of_refused, ?_, ?_, ?_, ?_⟩
  · rw [State.carryOut_port_frame, hself]
  · rw [State.carryOut_port_frame, hother]
  · rw [hpush, PortState.pushResponse_frame, hself]
    simp [responseFrame]
  · rw [hecho]
    split
    · rw [(PortState.pushEcho_spec _ _).2.1, hother]
    · rw [hother]
  · rw [hpush, PortState.pushResponse_frame, hself]
  · by_cases ha : q.action = .executeEcho ∧ q.kind ≠ some .resetPart
    · rw [hecho, if_pos ha, (PortState.pushEcho_spec _ _).1, hother]
      simp only [ha, ne_eq, not_false_eq_true, true_and]
      rfl
    · rw [hecho, if_neg ha, if_neg (by tauto), hother]
  · by_cases ha : q.action = .executeEcho ∧ q.kind ≠ some .resetPart
    · rw [hecho, if_pos ha]
      by_cases hl : (s.port (otherPort p)).echoes.length < 4
      · rw [PortState.pushEcho_frame _ (by rw [hother]; exact hl), if_neg (by omega)]
        exact hdropped
      · rw [PortState.pushEcho_full _ (by rw [hother]; exact Nat.not_lt.mp hl),
          if_pos ⟨ha.1, ha.2, Nat.not_lt.mp hl⟩, ← hdropped]
        rfl
    · rw [hecho, if_neg ha, if_neg (by tauto)]
      exact hdropped

end Sys2Proof.Machine
end

section
/-! The reads (R99, R171 to R174): what each answers, byte by byte, and the record it leaves as it stands. -/

namespace Sys2Proof.Machine

/-! ## Codes as bytes -/

theorem out8_toNat {n : Nat} (w : BitVec n) : out8 w.toNat = [w.zeroExtend 8] :=
  congrArg (fun b => [b]) (BitVec.eq_of_toNat_eq (by simp))

theorem out8_watchdogState (w : WdState) :
    out8 w.code = [match w with | .disabled => 0#8 | .running => 1#8 | .expired => 2#8] := by cases w <;> rfl

theorem out8_unitCode (u : TickUnit) : out8 (unitCode u) = [match u with | .ms10 => 0#8 | .s1 => 1#8] := by
  cases u <;> rfl

theorem out8_role (r : Role) : out8 r.code = [match r with | .primary => 0#8 | .trim => 1#8] := by cases r <;> rfl

theorem out8_admission (a : Admission) :
    out8 a.code = [match a with | .all => 0#8 | .taggedOnly => 1#8 | .untaggedOnly => 2#8] := by cases a <;> rfl

theorem out8_polarity (x : Polarity) : out8 x.code = [match x with | .normal => 0#8 | .inverted => 1#8] := by
  cases x <;> rfl

theorem out8_source (x : Source) : out8 x.code = [match x with | .stream => 0#8 | .generator => 1#8] := by
  cases x <;> rfl

theorem out8_resume (x : Resume) : out8 x.code = [match x with | .armed => 1#8 | .fadeIn => 2#8] := by
  cases x <;> rfl

theorem out8_actionCode (a : Option Action) : out8 (actionCode a) =
    [match a with | some .park => 0#8 | some .hold => 1#8 | some .null => 2#8 | none => 255#8] := by
  cases a with
  | none => rfl
  | some a => cases a <;> rfl

theorem out8_targetCode (x : Option EndTarget) : out8 (targetCode x) =
    [match x with | some .idle => 0#8 | some .retryWait => 7#8 | some .faulted => 8#8 | none => 255#8] := by
  cases x with
  | none => rfl
  | some x => cases x <;> rfl

theorem out8_firstMode (m : Mode) : out8 (firstModeCode m) = [if m = .retry then 1#8 else 0#8] := by cases m <;> rfl

theorem outOptWord_eq (w : Option (BitVec 16)) :
    outOptWord w = match w with | some w => 1#8 :: outWord w | none => [0#8, 0#8, 0#8] := by cases w <;> rfl

theorem flatMap_out8 {α : Type} (xs : List α) (f : α → Nat) :
    (xs.flatMap fun x => out8 (f x)) = xs.map fun x => BitVec.ofNat 8 (f x) := List.map_eq_flatMap.symm

/-! ## A request taken as its judge has it -/

section Asked

variable {s : State} {p : Port} {q : Request}

/-- A request taken next whose judge takes it is carried out with that payload and that effect. -/
theorem exec_taken {c : ReqClass} {n : Nat} {ops payload : List Byte} {adjusted : Bool} {t : State}
    (k : ReqKind) (h : s.Asks p q c n ops) (hk : requestOf c n = some k) (hl : ops.length = k.length)
    (hv : k.judge p q (s.dequeue p) = .take adjusted payload t) :
    exec k.row s = .next (s.carryOut p q (.take adjusted payload t)) := by
  rw [exec_asks k h hk hl, hv]

@[simp] theorem identifyPayload_dequeue : identifyPayload (s.dequeue p) = identifyPayload s := by
  simp [identifyPayload]

@[simp] theorem statusPayload_dequeue : statusPayload (s.dequeue p) = statusPayload s := by
  simp [statusPayload]

@[simp] theorem mapEntryPayload_dequeue (i : MapIx) : mapEntryPayload (s.dequeue p) i = mapEntryPayload s i := by
  simp [mapEntryPayload]

@[simp] theorem State.policy_dequeue (r : Port) : ((s.dequeue p).port r).policy = (s.port r).policy := by
  rcases eq_or_eq_otherPort p r with rfl | rfl
  · rw [State.port_dequeue]
  · rw [State.port_dequeue_other]

@[simp] theorem State.actionFor_dequeue (r : Port) (c : ReqClass) :
    ((s.dequeue p).port r).actionFor c = (s.port r).actionFor c := by
  rcases eq_or_eq_otherPort p r with rfl | rfl
  · rw [State.port_dequeue]; rfl
  · rw [State.port_dequeue_other]

@[simp] theorem classActionsPayload_dequeue : classActionsPayload (s.dequeue p) = classActionsPayload s := by
  have ha (c : ReqClass) : (s.dequeue p).portA.actionFor c = s.portA.actionFor c := s.actionFor_dequeue .a c
  have hb (c : ReqClass) : (s.dequeue p).portB.actionFor c = s.portB.actionFor c := s.actionFor_dequeue .b c
  simp only [classActionsPayload, ha, hb]

/-! ## The device and the ports (R171, R172) -/

theorem exec_identify_asks (h : s.Asks p q .supervision 1 []) :
    exec .identify s = .next (s.carryOut p q (.take false (identifyPayload s) (s.dequeue p))) :=
  exec_taken .identify h rfl rfl (by rw [ReqKind.judge, judgeIdentify, identifyPayload_dequeue])

theorem exec_readStatus_asks (h : s.Asks p q .supervision 3 []) :
    exec .readStatus s = .next (s.carryOut p q (.take false (statusPayload s) (s.dequeue p))) :=
  exec_taken .readStatus h rfl rfl (by rw [ReqKind.judge, judgeReadStatus, statusPayload_dequeue])

theorem exec_readMapEntry_asks {i : MapIx} (h : s.Asks p q .map 2 [BitVec.ofNat 8 i.val]) :
    exec .readMapEntry s = .next (s.carryOut p q (.take false (mapEntryPayload s i) (s.dequeue p))) :=
  exec_taken .readMapEntry h rfl rfl
    (by simp only [ReqKind.judge, judgeReadMapEntry, h.operand_map, mapEntryPayload_dequeue])

theorem exec_readPortPolicy_asks {r : Port} (h : s.Asks p q .map 5 [BitVec.ofNat 8 (portCode r)]) :
    exec .readPortPolicy s =
      .next (s.carryOut p q (.take false (policyPayload r (s.port r).policy) (s.dequeue p))) := by
  have hr : portOf (natAt8 q.operands 0) = some r := by
    rw [h.2.2.2]
    cases r <;> rfl
  exact exec_taken .readPortPolicy h rfl rfl
    (by simp only [ReqKind.judge, judgeReadPortPolicy, hr, State.policy_dequeue])

theorem exec_readClassActions_asks (h : s.Asks p q .device 2 []) :
    exec .readClassActions s = .next (s.carryOut p q (.take false (classActionsPayload s) (s.dequeue p))) :=
  exec_taken .readClassActions h rfl rfl (by rw [ReqKind.judge, judgeReadClassActions, classActionsPayload_dequeue])

/-! ## The set-up records (R171) -/

theorem exec_readProfile_asks {g : GroupIx} {l : LaneIx}
    (h : s.Asks p q .setup 2 [BitVec.ofNat 8 (6 * g.val + l.val)]) :
    exec .readProfile s = .next (s.carryOut p q (.take false
      (profilePayload (channelNumber g l) ((s.group g).chans.get l).profile) (s.dequeue p))) := by
  have hc : channelOf (natAt8 q.operands 0) = some (g, l) := by
    rw [h.2.2.2]
    exact channelOf_ofNat g l
  exact exec_taken .readProfile h rfl rfl
    (by simp only [ReqKind.judge, judgeReadProfile, hc, State.group_dequeue])

theorem exec_readLimitSet_asks {i : SetIx} (h : s.Asks p q .setup 4 [BitVec.ofNat 8 i.val]) :
    exec .readLimitSet s =
      .next (s.carryOut p q (.take false (limitSetPayload i (s.limitSets.get i)) (s.dequeue p))) := by
  have hi : indexOf 16 (natAt8 q.operands 0) = some i := by
    rw [h.2.2.2]
    exact indexOf_ofNat i (by decide)
  exact exec_taken .readLimitSet h rfl rfl
    (by simp only [ReqKind.judge, judgeReadLimitSet, hi, State.dequeue_limitSets])

theorem exec_readGroupConfig_asks {g : GroupIx} (h : s.Asks p q .setup 6 [BitVec.ofNat 8 g.val]) :
    exec .readGroupConfig s =
      .next (s.carryOut p q (.take false (configPayload g (s.group g).cfg) (s.dequeue p))) :=
  exec_taken .readGroupConfig h rfl rfl
    (by simp only [ReqKind.judge, judgeReadGroupConfig, h.operand_group, State.group_dequeue])

/-! ## The groups (R173, R174) -/

theorem exec_readGroupStatus_asks {g : GroupIx} (h : s.Asks p q .run 8 [BitVec.ofNat 8 g.val]) :
    exec .readGroupStatus s = .next (s.carryOut p q (.take false (groupStatusPayload (s.group g))
      ((s.dequeue p).setGroup g { s.group g with genDone := false }))) :=
  exec_taken .readGroupStatus h rfl rfl
    (by rw [ReqKind.judge, judgeReadGroupStatus, h.onGroup_eq, State.modGroup, State.group_dequeue])

/-- The occasion number after READ_FAULTS has met an observed value the spec does not state, or not. -/
def State.freeCountAfter (s : State) (g : GroupIx) : Nat :=
  if (s.group g).observedUnstated then s.freeCount + 1 else s.freeCount

theorem exec_readFaults_asks {g : GroupIx} (h : s.Asks p q .fault 1 [BitVec.ofNat 8 g.val]) :
    exec .readFaults s = .next (s.carryOut p q (.take false
      (faultsPayload (Config.unstatedObserved s.freeCount) (s.group g))
      { s.dequeue p with freeCount := s.freeCountAfter g })) := by
  refine exec_taken .readFaults h rfl rfl ?_
  rw [ReqKind.judge, judgeReadFaults, h.operand_group, State.freeCountAfter]
  simp only [State.group_dequeue, State.dequeue_freeCount]
  by_cases hu : (s.group g).observedUnstated = true
  · rw [if_pos hu, if_pos hu]
  · rw [if_neg hu, if_neg hu, ← s.dequeue_freeCount p]

end Asked

/-! ## The payloads, byte by byte -/

theorem mapEntryPayload_bytes (s : State) (i : MapIx) : ∃ b : Byte,
    ((∃ g : GroupIx, (s.group g).bound = some i ∧ b = BitVec.ofNat 8 g.val)
      ∨ (∀ g : GroupIx, (s.group g).bound ≠ some i) ∧ b = 255)
    ∧ mapEntryPayload s i = [BitVec.ofNat 8 i.val, if (s.map.get i).valid then 1#8 else 0#8]
        ++ outWord ((s.map.get i).tag.zeroExtend 16)
        ++ (out8 (s.map.get i).role.code ++ out8 (s.map.get i).group.val
          ++ out8 (s.map.get i).laneMask.toNat ++ out8 (s.map.get i).portMask.toNat)
        ++ outOptWord (s.map.get i).lastTrim ++ [b] := by
  cases hb : s.boundGroup i with
  | some g =>
    have hg : (s.group g).bound = some i := by simpa using List.find?_some hb
    exact ⟨BitVec.ofNat 8 g.val, .inl ⟨g, hg, rfl⟩, by simp [mapEntryPayload, hb, out8, outBool]⟩
  | none => exact ⟨255, .inr ⟨State.boundGroup_none hb, rfl⟩, by simp [mapEntryPayload, hb, out8, outBool]⟩

theorem firstTripPayload_some (free : Du) (f : FirstTrip) : firstTripPayload free (some f) =
    [1#8, BitVec.ofNat 8 f.kind.code, (match f.lane with | some l => BitVec.ofNat 8 l.val | none => 255#8)]
      ++ outWord f.outSeq
      ++ (match f.observed with | some w => 1#8 :: outWord w | none => 0#8 :: outWord free)
      ++ [if f.mode = .retry then 1#8 else 0#8] := by
  rw [firstTripPayload, out8_firstMode]
  cases f.lane <;> cases f.observed <;> rfl

/-- Settles O25: each read's payload, its codes written as bytes. -/
theorem readsReportAndChangeNothing : Obligations.ReadsReportAndChangeNothing := by
  intro s p q
  refine ⟨fun h => ?_, fun h => ?_, fun i h => ?_, fun r h => ?_, fun g l f hf h => ?_, fun i h => ?_, fun g h => ?_,
    fun h => ?_⟩
  case _ =>
    rw [exec_identify_asks h, identifyPayload, out8_toNat]
    rfl
  case _ =>
    rw [exec_readStatus_asks h, statusPayload, out8_watchdogState, out8_unitCode]
    rfl
  case _ =>
    obtain ⟨b, hb, hbytes⟩ := mapEntryPayload_bytes s i
    refine ⟨b, hb, ?_⟩
    rw [exec_readMapEntry_asks h, hbytes, out8_role, out8_toNat, out8_toNat, outOptWord_eq]
    rfl
  case _ =>
    rw [exec_readPortPolicy_asks h, policyPayload, out8_admission]
    rfl
  case _ =>
    rw [exec_readProfile_asks h, profilePayload, out8_polarity, ← hf]
    rfl
  case _ => exact exec_readLimitSet_asks h
  case _ => exact exec_readGroupConfig_asks h
  case _ =>
    rw [exec_readClassActions_asks h, classActionsPayload, flatMap_out8, flatMap_out8]

/-- Settles O28: the payload's codes written as bytes, and the done flag cleared with it. -/
theorem readGroupStatusClearsTheDoneFlag : Obligations.ReadGroupStatusClearsTheDoneFlag := by
  intro s p q g h
  rw [exec_readGroupStatus_asks h, groupStatusPayload, out8_source, out8_resume, outOptWord_eq, outOptWord_eq]
  simp only [out8, List.append_assoc, List.cons_append, List.nil_append]
  cases (s.group g).bound <;> rfl

/-- Settles O29: the unstated observed value is the model's own, and its occasion number alone may move. -/
theorem readFaultsReportsTheEpisode : Obligations.ReadFaultsReportsTheEpisode := by
  intro s p q g h
  refine ⟨Config.unstatedObserved s.freeCount, s.freeCountAfter g, ?_⟩
  rw [exec_readFaults_asks h, faultsPayload, out8_actionCode, out8_targetCode, flatMap_out8]
  cases (s.group g).firstTrip with
  | none => rfl
  | some f =>
    simp only [firstTripPayload_some, List.append_assoc, List.cons_append, List.nil_append] <;> rfl

end Sys2Proof.Machine
end

section
/-! The records that a read answers, read back as a write would carry them (R29, R92, R118, R171). -/

namespace Sys2Proof.Machine

/-! ## Fields read back -/

theorem toNat_ofNat8 {n : Nat} (h : n ≤ 255) : (BitVec.ofNat 8 n).toNat = n := by
  rw [BitVec.toNat_ofNat]
  omega

theorem toNat_ofNat16 {n : Nat} (h : n ≤ 65535) : (BitVec.ofNat 16 n).toNat = n := by
  rw [BitVec.toNat_ofNat]
  omega

/-- A magnitude of at most 32767 reads as itself in two's complement. -/
theorem toInt_ofNat16 {n : Nat} (h : n ≤ 32767) : (BitVec.ofNat 16 n).toInt = n := by
  rw [BitVec.toInt_eq_toNat_of_lt (by rw [toNat_ofNat16] <;> omega), toNat_ofNat16 (by omega)]

theorem Mode.code_byte (m : Mode) : m.code = (BitVec.ofNat 8 m.code).toNat := by cases m <;> rfl
theorem Action.code_byte (a : Action) : a.code = (BitVec.ofNat 8 a.code).toNat := by cases a <;> rfl
theorem Pattern.code_byte (x : Pattern) : x.code = (BitVec.ofNat 8 x.code).toNat := by cases x <;> rfl
theorem portCode_byte (p : Port) : portCode p = (BitVec.ofNat 8 (portCode p)).toNat := by cases p <;> rfl

/-! ## Limit sets (R118) -/

/-- A monitor within the ranges of R117. -/
abbrev LimitMon.Law (m : LimitMon) : Prop :=
  1 ≤ m.deglitch ∧ m.deglitch ≤ 255 ∧ ¬ (m.mode = .retry ∧ m.action = .hold)

section Monitor

variable {bs : List Byte} {i : Nat} {m : LimitMon}

/-- Three bytes that carry a monitor: its deglitch count, its mode and its action. -/
abbrev LimitMon.At (m : LimitMon) (bs : List Byte) (i : Nat) : Prop :=
  byteAt bs i = BitVec.ofNat 8 m.deglitch ∧ byteAt bs (i + 1) = BitVec.ofNat 8 m.mode.code
    ∧ byteAt bs (i + 2) = BitVec.ofNat 8 m.action.code

theorem LimitMon.At.codes (h : m.At bs i) : natAt8 bs i = (BitVec.ofNat 8 m.deglitch).toNat
    ∧ m.mode.code = natAt8 bs (i + 1) ∧ m.action.code = natAt8 bs (i + 2) := by
  obtain ⟨hn, hm, ha⟩ := h
  exact ⟨congrArg _ hn, m.mode.code_byte.trans (congrArg _ hm.symm), m.action.code_byte.trans (congrArg _ ha.symm)⟩

theorem LimitMon.At.read (h : m.At bs i) (hm : m.Law) : limitMonAt bs i = some m := by
  obtain ⟨hn, hmode, haction⟩ := h.codes
  obtain ⟨hlo, hhi, htreat⟩ := hm
  rw [limitMonAt_codes hmode haction, hn, toNat_ofNat8 hhi, Nat.max_eq_right hlo, if_neg htreat]

theorem LimitMon.At.not_altered (h : m.At bs i) (hm : m.Law) : limitMonAltered bs i = false := by
  obtain ⟨hn, hmode, haction⟩ := h.codes
  obtain ⟨hlo, hhi, htreat⟩ := hm
  rw [Bool.eq_false_iff, Ne, limitMonAltered_iff hmode haction, hn, toNat_ofNat8 hhi]
  exact not_or_intro (by omega) htreat

end Monitor

section LimitSet

variable (i : SetIx) (ls : LimitSet)

theorem limitSetPayload_limits : wordAt (limitSetPayload i ls) 1 = ls.posLo
    ∧ wordAt (limitSetPayload i ls) 3 = ls.posHi ∧ wordAt (limitSetPayload i ls) 8 = BitVec.ofNat 16 ls.forceMax
    ∧ wordAt (limitSetPayload i ls) 13 = BitVec.ofNat 16 ls.errMax :=
  ⟨(outWord_eq _).2, (outWord_eq _).2, (outWord_eq _).2, (outWord_eq _).2⟩

theorem limitSetPayload_monitors : ls.position.At (limitSetPayload i ls) 5 ∧ ls.force.At (limitSetPayload i ls) 10
    ∧ ls.error.At (limitSetPayload i ls) 15 := ⟨⟨rfl, rfl, rfl⟩, ⟨rfl, rfl, rfl⟩, rfl, rfl, rfl⟩

variable {ls}

theorem LimitSet.Law.monitors (h : ls.Law) : ls.position.Law ∧ ls.force.Law ∧ ls.error.Law := by
  obtain ⟨-, -, -, hmons⟩ := h
  exact ⟨hmons _ (by simp), hmons _ (by simp), hmons _ (by simp)⟩

theorem limitSetOf_payload (h : ls.Law) : limitSetOf (limitSetPayload i ls) = some ls := by
  obtain ⟨hlo, hhi, hforce, herr⟩ := limitSetPayload_limits i ls
  obtain ⟨hp, hf, he⟩ := limitSetPayload_monitors i ls
  obtain ⟨lp, lf, le⟩ := h.monitors
  obtain ⟨hle, hf32, he32, -⟩ := h
  rw [limitSetOf_some (hp.read lp) (hf.read lf) (he.read le) (by rwa [hlo, hhi]), hlo, hhi, hforce, herr,
    nonNegative, nonNegative, toInt_ofNat16 hf32, toInt_ofNat16 he32]
  rfl

theorem limitSetAltered_payload (h : ls.Law) : limitSetAltered (limitSetPayload i ls) = false := by
  obtain ⟨-, -, hforce, herr⟩ := limitSetPayload_limits i ls
  obtain ⟨hp, hf, he⟩ := limitSetPayload_monitors i ls
  obtain ⟨lp, lf, le⟩ := h.monitors
  obtain ⟨-, hf32, he32, -⟩ := h
  have hnn (n : Nat) : ¬ (n : Int) < 0 := by omega
  rw [limitSetAltered, hp.not_altered lp, hf.not_altered lf, he.not_altered le, hforce, herr, toInt_ofNat16 hf32,
    toInt_ofNat16 he32, decide_eq_false (hnn _), decide_eq_false (hnn _)]
  rfl

end LimitSet

/-! ## Group configurations (R29) -/

section GroupConfig

/-- The five treatments in the order of the operands (R176). -/
def GroupConfig.treatments (c : GroupConfig) : Fin 5 → Treatment :=
  ![c.starve, c.seqBreak, c.fbLoss, c.clampPersist, c.watchdog]

variable {c : GroupConfig}

theorem configPayload_codes (g : GroupIx) (c : GroupConfig) (i : Fin 5) :
    (c.treatments i).mode.code = natAt8 (configPayload g c) (13 + 2 * i.val)
      ∧ (c.treatments i).action.code = natAt8 (configPayload g c) (14 + 2 * i.val) := by
  rw [configPayload_eq]
  fin_cases i <;> exact ⟨Mode.code_byte _, Action.code_byte _⟩

theorem configPayload_index (g : GroupIx) (c : GroupConfig) :
    byteAt (configPayload g c) 0 = BitVec.ofNat 8 g.val := by
  rw [configPayload_eq]
  rfl

theorem configPayload_port (g : GroupIx) (c : GroupConfig) :
    portCode c.telemPort = natAt8 (configPayload g c) 32 := by
  rw [configPayload_eq]
  exact portCode_byte _

theorem GroupConfig.Law.fits (h : c.Law) : c.Fits := by
  obtain ⟨h1, h2, h3, h4, h5, h6, h7, h8, h9, -, -, -, -, -, h10, h11, h12, h13⟩ := h
  simp only [GroupConfig.Fits]
  omega

theorem GroupConfig.Law.stored (h : c.Law) : c.stored = c := by
  obtain ⟨h1, h2, h3, h4, h5, h6, -, h8, h9, t1, t2, t3, t4, t5, h10, h11, h12, -⟩ := h
  exact c.stored_eq_self.mpr ⟨h1, h2, h3, h4, h5, h6, h8, h9, ⟨t1, t2, t3, t4, t5⟩, h10, h11, h12⟩

/-- The payload carries the record (`configPayload_carried`, `configPayload_inj`), and storing replaces nothing. -/
theorem groupConfigOf_payload (g : GroupIx) (h : c.Law) : groupConfigOf (configPayload g c) = some c := by
  have hcodes := configPayload_codes g c
  have hport := configPayload_port g c
  have hsame := configPayload_carried (configPayload_length g c) (configPayload_index g c) hcodes hport
  rw [groupConfigOf_carried hcodes hport, configPayload_inj (carriedConfig_fits _ _ _ _) h.fits hsame, h.stored]

end GroupConfig

/-! ## Generator configurations (R92) -/

section GenConfig

variable {c : GenConfig}

/-- The count as three bytes, together again. -/
theorem threeByteNat_out24 {n : Nat} (h : n ≤ 16777215) : threeByteNat (BitVec.ofNat 8 (n / 65536))
    ((BitVec.ofNat 16 n).extractLsb' 8 8) ((BitVec.ofNat 16 n).extractLsb' 0 8) = n := by
  rw [← toNat_mul_add_append, (outWord_eq _).2, toNat_ofNat8 (by omega), BitVec.toNat_ofNat]
  omega

theorem mask_byte (w : BitVec 6) : (BitVec.ofNat 8 w.toNat).toNat < 64 ∧ (BitVec.ofNat 8 w.toNat).truncate 6 = w := by
  have hn : (BitVec.ofNat 8 w.toNat).toNat = w.toNat := toNat_ofNat8 (by omega)
  refine ⟨by omega, BitVec.eq_of_toNat_eq ?_⟩
  rw [BitVec.toNat_setWidth, hn, Nat.mod_eq_of_lt w.isLt]

theorem genPayload_bytes (g : GroupIx) (c : GenConfig) : genPayload g c =
    [BitVec.ofNat 8 g.val, BitVec.ofNat 8 c.pattern.code, c.level.extractLsb' 8 8, c.level.extractLsb' 0 8,
      (BitVec.ofNat 16 c.period).extractLsb' 8 8, (BitVec.ofNat 16 c.period).extractLsb' 0 8,
      c.seed.extractLsb' 8 8, c.seed.extractLsb' 0 8, BitVec.ofNat 8 (c.count.getD 0 / 65536),
      (BitVec.ofNat 16 (c.count.getD 0)).extractLsb' 8 8, (BitVec.ofNat 16 (c.count.getD 0)).extractLsb' 0 8,
      BitVec.ofNat 8 c.mask.toNat] := rfl

theorem GenConfig.Law.count_le (h : c.Law) : c.count.getD 0 ≤ 16777215 := by
  obtain ⟨-, -, -, -, -, hcount⟩ := h
  cases hc : c.count with
  | none => exact Nat.zero_le _
  | some n => exact (hcount n hc).2

/-- Storing a configuration within its law replaces nothing (R92). -/
theorem GenConfig.Law.stored (h : c.Law) {mask : Byte} (hm : mask.truncate 6 = c.mask) :
    storedGen c.pattern c.level c.period c.seed (c.count.getD 0) mask = c := by
  obtain ⟨hlevel, hlo, hhi, hramp, hseed, hcount⟩ := h
  have hperiod : storedPeriod c.pattern c.period = c.period := by
    rw [storedPeriod_eq_self]
    rintro (h0 | h1 | ⟨hp, h1⟩)
    · omega
    · omega
    · have := hramp hp
      omega
  have hseed' : c.seed.toNat ≠ 0 := fun hz => hseed (BitVec.eq_of_toNat_eq hz)
  have hn : (if c.count.getD 0 = 0 then none else some (c.count.getD 0)) = c.count := by
    cases hc : c.count with
    | none => rfl
    | some n => exact if_neg (Nat.pos_iff_ne_zero.mp (hcount n hc).1)
  rw [storedGen, (storedLevel_eq_self _).mpr hlevel, hperiod, (storedSeed_eq_self _).mpr hseed', hn, hm]

theorem genConfigOf_payload (g : GroupIx) (h : c.Law) : genConfigOf (genPayload g c) = some c := by
  obtain ⟨hmask, htrunc⟩ := mask_byte c.mask
  have hperiod : c.period ≤ 65535 := by
    obtain ⟨-, -, hhi, -⟩ := h
    omega
  rw [genPayload_bytes, genConfigOf_some _ (Pattern.code_byte _) hmask, (outWord_eq _).2, (outWord_eq _).2,
    (outWord_eq _).2, threeByteNat_out24 h.count_le, toNat_ofNat16 hperiod, h.stored htrunc]

end GenConfig

/-- Settles O26: each payload carries its record, and within its law nothing is replaced where it is stored. -/
theorem readPayloadsReadBackAsWrites : Obligations.ReadPayloadsReadBackAsWrites := by
  refine ⟨?_, ?_, ?_⟩
  · intro i ls bs h hbs
    rw [hbs]
    exact ⟨limitSetOf_payload i h, limitSetAltered_payload i h, limitSetPayload_length i ls, rfl⟩
  · intro g c bs h hbs
    rw [hbs]
    exact ⟨groupConfigOf_payload g h, configPayload_length g c, configPayload_index g c⟩
  · intro g c bs h hbs
    rw [hbs]
    exact ⟨genConfigOf_payload g h, genPayload_length g c, rfl⟩

end Sys2Proof.Machine
end

section
/-! The refusals of an operand outside its index range (R158, R159, R176), and the DEVICE class writes:
SET_CLASS_ACTION (R161) and RESET_PART (R168). -/

namespace Sys2Proof.Machine

/-! ## Operands that name nothing -/

theorem indexOf_none {n i : Nat} (h : n ≤ i) : indexOf n i = none := dif_neg (Nat.not_lt.mpr h)

theorem channelOf_none {c : Nat} (h : 24 ≤ c) : channelOf c = none := dif_neg (Nat.not_lt.mpr h)

theorem classOfTag_some {n : Nat} {c : ReqClass} (h : classOfTag n = some c) : n = 0xFF0 + c.ix.val := by
  unfold classOfTag at h
  split at h <;> cases h <;> rfl

theorem classOfTag_outside {n : Nat} (h : n < 0xFF0 ∨ 0xFF6 < n) : classOfTag n = none := by
  rcases hc : classOfTag n with _ | c
  · rfl
  · have := classOfTag_some hc
    omega

theorem namedGroups_none {n : Nat} (h : 4 ≤ n ∧ n ≠ 255) : namedGroups n = none := by
  rw [namedGroups, if_neg h.2, indexOf_none h.1]
  rfl

section Judges

variable {p : Port} {q : Request} {s : State}

theorem onGroup_none (h : 4 ≤ natAt8 q.operands 0) (f : GroupIx → Verdict) : onGroup q f = .refuse .badIndex := by
  rw [onGroup, indexOf_none h]

theorem judgeWriteMapEntry_badIndex (h : 32 ≤ natAt8 q.operands 0 ∨ 4 ≤ natAt8 q.operands 4) :
    judgeWriteMapEntry p q s = .refuse .badIndex := by
  rcases h with h | h
  · rw [judgeWriteMapEntry, indexOf_none h]
  · rw [judgeWriteMapEntry, indexOf_none h]
    cases indexOf 32 (natAt8 q.operands 0) <;> rfl

theorem judgeWriteProfile_badIndex (h : 24 ≤ natAt8 q.operands 0 ∨ 16 ≤ natAt8 q.operands 14) :
    judgeWriteProfile p q s = .refuse .badIndex := by
  rcases h with h | h
  · rw [judgeWriteProfile, channelOf_none h]
  · rw [judgeWriteProfile, indexOf_none h]
    cases channelOf (natAt8 q.operands 0) <;> rfl

theorem judgeSetClassAction_badIndex
    (h : 2 ≤ natAt8 q.operands 0 ∨ natAt16 q.operands 1 < 0xFF0 ∨ 0xFF6 < natAt16 q.operands 1) :
    judgeSetClassAction p q s = .refuse .badIndex := by
  rcases h with h | h
  · rw [judgeSetClassAction, portOf_none h]
  · rw [judgeSetClassAction, classOfTag_outside h]
    cases portOf (natAt8 q.operands 0) <;> rfl

end Judges

/-- Settles O35: the first thing each of these requests asks of its operands is the index they name. -/
theorem badIndexIsRefusedFirst : Obligations.BadIndexIsRefusedFirst := by
  intro k s p q hn hk hl hbad
  rw [exec_row, takeRequest_taken _ hn hk hl]
  suffices hv : k.judge p q (s.dequeue p) = .refuse .badIndex by rw [hv]
  cases k with
  | readMapEntry => rw [ReqKind.judge, judgeReadMapEntry, indexOf_none hbad]
  | clearMapEntry => rw [ReqKind.judge, judgeClearMapEntry, indexOf_none hbad]
  | writeMapEntry => exact judgeWriteMapEntry_badIndex (p := p) hbad
  | writePortPolicy => rw [ReqKind.judge, judgeWritePortPolicy, portOf_none hbad]
  | readPortPolicy => rw [ReqKind.judge, judgeReadPortPolicy, portOf_none hbad]
  | readPortStats => rw [ReqKind.judge, judgeReadPortStats, portOf_none hbad]
  | writeProfile => exact judgeWriteProfile_badIndex (p := p) hbad
  | readProfile => rw [ReqKind.judge, judgeReadProfile, channelOf_none hbad]
  | readChannelStats => rw [ReqKind.judge, judgeReadChannelStats, channelOf_none hbad]
  | writeLimitSet => rw [ReqKind.judge, judgeWriteLimitSet, indexOf_none hbad]
  | readLimitSet => rw [ReqKind.judge, judgeReadLimitSet, indexOf_none hbad]
  | writeGroupConfig => rw [ReqKind.judge, judgeWriteGroupConfig, indexOf_none hbad]
  | readGroupConfig => rw [ReqKind.judge, judgeReadGroupConfig, indexOf_none hbad]
  | genConfig => rw [ReqKind.judge, judgeGenConfig, indexOf_none hbad]
  | readFaults => rw [ReqKind.judge, judgeReadFaults, indexOf_none hbad]
  | readGroupStats => rw [ReqKind.judge, judgeReadGroupStats, indexOf_none hbad]
  | arm | disarm | start | stop | abort | setLevel | genStart | readGroupStatus => exact onGroup_none hbad _
  | clearFaults => rw [ReqKind.judge, judgeClearFaults, namedGroups_none hbad]
  | setClassAction => exact judgeSetClassAction_badIndex hbad
  | identify | keepalive | readStatus | setRate | setAlertMask | setWatchdog | forceWatchdog | readServoStats
  | readClassActions | resetPart => exact hbad.elim

/-! ## SET_CLASS_ACTION (R161) -/

theorem classActionOf_none {n : Nat} (h : 3 ≤ n) : classActionOf n = none := by
  match n, h with
  | _ + 3, _ => rfl

@[simp] theorem classActionOf_code (a : ClassAction) : classActionOf a.code = some a := by cases a <;> rfl

/-- When the LOCKOUT checks refuse (R161). -/
theorem State.lockout_iff (s : State) (arrival r : Port) (c : ReqClass) (n : Nat) :
    s.lockout arrival r c n = true ↔ c = .supervision ∧ n ≠ 0 ∨ c = .device ∧ n = 2
      ∧ (r = arrival ∨ (s.port (otherPort r)).actionFor .device = .discard) := by
  simp only [State.lockout, Bool.or_eq_true, Bool.and_eq_true, decide_eq_true_eq, and_assoc]
  exact Iff.rfl

section Asked

variable {s : State} {p : Port} {q : Request} {c th tl a : Byte}

theorem setClassAction_badIndex (h : s.Asks p q .device 1 [c, th, tl, a])
    (hbad : 2 ≤ c.toNat ∨ (th ++ tl).toNat < 0xFF0 ∨ 0xFF6 < (th ++ tl).toNat) :
    exec .setClassAction s = .next (s.carryOut p q (.refuse .badIndex)) := by
  have hx : exec .setClassAction s = .next (s.carryOut p q (judgeSetClassAction p q (s.dequeue p))) :=
    exec_asks .setClassAction h rfl rfl
  rw [hx, judgeSetClassAction_badIndex]
  rw [h.2.2.2]
  exact hbad

/-- A SET_CLASS_ACTION that names a port and a class is judged by the LOCKOUT checks, then by its action code. -/
theorem setClassAction_asks {r : Port} {k : ReqClass} (h : s.Asks p q .device 1 [c, th, tl, a])
    (hr : portCode r = c.toNat) (hk : (th ++ tl).toNat = 0xFF0 + k.ix.val) :
    exec .setClassAction s = .next (s.carryOut p q (
      if s.lockout p r k a.toNat then .refuse .lockout
      else (classActionOf a.toNat).elim (.refuse .badValue) fun ca =>
        .take false [] ((s.dequeue p).modPort r fun x => { x with actions := x.actions.set k.ix ca }))) := by
  have hx : exec .setClassAction s = .next (s.carryOut p q (judgeSetClassAction p q (s.dequeue p))) :=
    exec_asks .setClassAction h rfl rfl
  have hport : portOf (natAt8 q.operands 0) = some r := by
    rw [h.2.2.2, ← portOf_portCode r, hr]
    rfl
  have hclass : classOfTag (natAt16 q.operands 1) = some k := by
    rw [h.2.2.2, ← classOfTag_class k, ← hk]
    rfl
  have haction : natAt8 q.operands 3 = a.toNat := by rw [h.2.2.2]; rfl
  have hlock : (s.dequeue p).lockout p r k a.toNat = s.lockout p r k a.toNat := by
    simp only [State.lockout, State.actionFor_dequeue]
  rw [hx, judgeSetClassAction, hport, hclass, haction]
  simp only [hlock]
  cases classActionOf a.toNat <;> rfl

end Asked

/-- Settles O33: by the order of the checks. -/
theorem setClassActionRespectsLockout : Obligations.SetClassActionRespectsLockout := by
  intro s p q c th tl a h
  refine ⟨setClassAction_badIndex h, fun r k hr hk => ?_⟩
  have hx := setClassAction_asks h hr hk
  have hlock := s.lockout_iff p r k a.toNat
  have hzero : a.toNat = 0 ↔ a = 0 := BitVec.toNat_inj (y := 0)
  have htwo : a.toNat = 2 ↔ a = 2 := BitVec.toNat_inj (y := 2)
  rw [Ne, hzero, htwo] at hlock
  refine ⟨fun hl => ?_, fun hl => ⟨fun hbad => ?_, fun ca hca => ?_⟩⟩
  · rw [hx, if_pos (hlock.mpr hl)]
  · rw [hx, if_neg (mt hlock.mp hl), classActionOf_none hbad, Option.elim_none]
  · rw [hx, if_neg (mt hlock.mp hl), ← hca, classActionOf_code, Option.elim_some]

/-! ## RESET_PART (R168) -/

theorem resetKindOf_none {n : Nat} (h : 2 ≤ n) : resetKindOf n = none := by
  match n, h with
  | _ + 2, _ => rfl

theorem resetKindOf_byte {b : Byte} (h : b.toNat ≤ 1) :
    resetKindOf b.toNat = some (if b = 0 then .reload else .resample) := by
  have hb : b = 0 ∨ b = 1 := by
    rcases Nat.le_one_iff_eq_zero_or_eq_one.mp h with h | h
    · exact .inl (BitVec.eq_of_toNat_eq h)
    · exact .inr (BitVec.eq_of_toNat_eq h)
  rcases hb with rfl | rfl <;> rfl

section Asked

variable {s : State} {p : Port} {q : Request} {b : Byte}

theorem resetPart_asks (h : s.Asks p q .device 3 [b]) :
    exec .resetPart s = .next (s.carryOut p q (
      if s.allResting then (resetKindOf b.toNat).elim (.refuse .badValue) fun _ =>
        .take false [] { s.dequeue p with resetInFlight := true }
      else .refuse .wrongState)) := by
  have hx : exec .resetPart s = .next (s.carryOut p q (judgeResetPart p q (s.dequeue p))) :=
    exec_asks .resetPart h rfl rfl
  have hb : natAt8 q.operands 0 = b.toNat := by rw [h.2.2.2]; rfl
  have hrest : (s.dequeue p).allResting = s.allResting := by simp only [State.allResting, State.group_dequeue]
  rw [hx, judgeResetPart, hrest, hb]
  cases resetKindOf b.toNat <;> rfl

/-- A taken RESET_PART: its response carries the landing, and no echo joins the other port (R168). -/
theorem State.carryOut_resetPart (h : s.Asks p q .device 3 [b]) (hb : b.toNat ≤ 1) {t : State}
    (ht : t = s.carryOut p q (.take false [] { s.dequeue p with resetInFlight := true })) :
    t.resetInFlight = true ∧ t.groups = s.groups ∧ t.map = s.map
      ∧ (t.port p).responses.map QResponse.landing = (s.port p).responses.map QResponse.landing
          ++ [some (if b = 0 then .reload else .resample)]
      ∧ (t.port (otherPort p)).echoes = (s.port (otherPort p)).echoes := by
  have hk : q.kind = some .resetPart := h.kind_eq
  have hop : natAt8 q.operands 0 = b.toNat := by rw [h.2.2.2]; rfl
  have hport (r : Port) : ({ s.dequeue p with resetInFlight := true } : State).port r = (s.dequeue p).port r := by
    cases r <;> rfl
  have hother : ¬ (q.action = .executeEcho ∧ q.kind ≠ some .resetPart) := fun he => he.2 hk
  subst ht
  refine ⟨State.carryOut_take_resetInFlight .., ?_, ?_, ?_, ?_⟩
  · rw [State.carryOut_take_groups, State.dequeue_groups]
  · rw [State.carryOut_take_map, State.dequeue_map]
  · rw [State.port_carryOut, Verdict.effect, hport, PortState.pushResponse_frame, State.port_dequeue]
    simp only [List.map_append, List.map_cons, List.map_nil, landingOf, if_pos hk, hop, resetKindOf_byte hb]
  · rw [State.port_carryOut_other, if_neg hother, Verdict.effect, hport, State.port_dequeue_other]

end Asked

/-- Settles O34: by the order of the checks, and the answer of a taken RESET_PART. -/
theorem resetPartPutsAResetInFlight : Obligations.ResetPartPutsAResetInFlight := by
  intro s p q b h
  have hx := resetPart_asks h
  refine ⟨fun ⟨g, hi, hf⟩ => ?_, fun hrest => ⟨fun hbad => ?_, fun hb => ?_⟩⟩
  · rw [hx, if_neg]
    exact fun hall => (s.allResting_iff.mp hall g).elim hi hf
  · rw [hx, if_pos (s.allResting_iff.mpr hrest), resetKindOf_none hbad, Option.elim_none]
  · have htaken : exec .resetPart s =
        .next (s.carryOut p q (.take false [] { s.dequeue p with resetInFlight := true })) := by
      rw [hx, if_pos (s.allResting_iff.mpr hrest), resetKindOf_byte hb, Option.elim_some]
    exact ⟨htaken, _, htaken, State.carryOut_resetPart h hb rfl⟩

end Sys2Proof.Machine
end

section
/-! The completion of an upstream sending (R165, R170, R181, R185): the bytes that go out, the next choice, and the
landing of a part reset. -/

namespace Sys2Proof.Machine

/-! ## The bytes of an upstream frame (R185) -/

theorem out8_upKind (k : UpKind) :
    out8 k.code = [match k with | .response => 1#8 | .echo => 2#8 | .telemetry => 3#8] := by cases k <;> rfl

/-- The unit number in bits 0 and 1, and bit 4 set on an echo of a request that came in on port B. -/
theorem out8_unitByte (u : BitVec 2) (k : UpKind) (r : Port) :
    out8 (u.toNat + if k = .echo then 16 * portCode r else 0)
      = [u.zeroExtend 8 ||| if k = .echo ∧ r = .b then 0x10#8 else 0#8] := by
  have hplain : out8 u.toNat = [u.zeroExtend 8 ||| 0#8] := by rw [BitVec.or_zero, out8_toNat]
  have hbit : ∀ v : BitVec 2, out8 (v.toNat + 16) = [v.zeroExtend 8 ||| 0x10#8] := by decide
  by_cases hk : k = .echo
  · cases r with
    | a => simpa [hk, portCode] using hplain
    | b => simpa [hk, portCode] using hbit u
  · simpa [hk] using hplain

theorem UpFrame.bytes_of_body {f : UpFrame} {bytes : List Byte}
    (h : ∃ body : List Byte, bytes = body ++ outWord (crc body) ∧ body =
      outWord (f.tag.zeroExtend 16)
        ++ [(match f.kind with | .response => 1#8 | .echo => 2#8 | .telemetry => 3#8),
          f.unit.zeroExtend 8 ||| (if f.kind = .echo ∧ f.origin = .b then 0x10#8 else 0#8), f.ident, f.status]
        ++ out16 f.payload.length ++ f.payload) : f.bytes = bytes := by
  obtain ⟨body, rfl, hbody⟩ := h
  have hfields : body = outWord (f.tag.zeroExtend 16) ++ out8 f.kind.code
      ++ out8 (f.unit.toNat + (if f.kind = .echo then 16 * portCode f.origin else 0))
      ++ [f.ident, f.status] ++ out16 f.payload.length ++ f.payload := by
    rw [hbody, out8_upKind, out8_unitByte]
    rfl
  rw [UpFrame.bytes, ← hfields, sealFrame]

/-! ## The telemetry slots in rotating order (R181) -/

/-- The group `j` places after a group in rotating order. -/
def GroupIx.after (n : GroupIx) (j : Nat) : GroupIx := ⟨(n.val + j) % 4, Nat.mod_lt _ (by decide)⟩

theorem PortState.nextSlot_eq (x : PortState) : x.nextSlot = (List.range 4).findSome? fun j =>
    (x.slots.get (GroupIx.after x.nextGroup j)).map fun f => (GroupIx.after x.nextGroup j, f) := by
  have hlist : ∀ n : GroupIx, [n, n + 1, n + 2, n + 3] = (List.range 4).map (GroupIx.after n) := by decide
  rw [PortState.nextSlot, hlist, List.findSome?_map]
  rfl

/-- What a search of the numbers below a bound finds first. -/
theorem findSome?_range_first {α : Type} {f : Nat → Option α} {j : Nat} {b : α} (hb : f j = some b)
    (hnone : ∀ i, i < j → f i = none) : ∀ {n : Nat}, j < n → (List.range n).findSome? f = some b
  | n + 1, hj => by
    rw [List.range_succ, List.findSome?_append]
    rcases Nat.lt_succ_iff_lt_or_eq.mp hj with hlt | rfl
    · rw [findSome?_range_first hb hnone hlt]
      rfl
    · rw [List.findSome?_eq_none_iff.mpr fun i hi => hnone i (List.mem_range.mp hi)]
      simpa using hb

theorem PortState.nextSlot_first {x : PortState} {j : Nat} {g : GroupIx} {u : UpFrame} (hj : j < 4)
    (hg : g.val = (x.nextGroup.val + j) % 4) (hu : x.slots.get g = some u)
    (hfirst : ∀ (i : Nat) (h : GroupIx), i < j → h.val = (x.nextGroup.val + i) % 4 → x.slots.get h = none) :
    x.nextSlot = some (g, u) := by
  have hafter : GroupIx.after x.nextGroup j = g := Fin.ext hg.symm
  rw [PortState.nextSlot_eq]
  refine findSome?_range_first ?_ (fun i hi => ?_) hj
  · rw [hafter, hu]
    rfl
  · rw [hfirst i _ hi rfl]
    rfl

theorem PortState.nextSlot_empty {x : PortState} (h : ∀ g : GroupIx, x.slots.get g = none) : x.nextSlot = none := by
  simp [PortState.nextSlot, h]

/-! ## The next choice (R181) -/

/-- A port whose transmitter has completed a frame, with the queues that leaves, and what it sends next. -/
theorem PortState.finish_choose {x : PortState} (f : Sending) {rs : List QResponse} {es : List UpFrame}
    (hrs : rs = if f.source = .response then x.responses.tail else x.responses)
    (hes : es = if f.source = .echo then x.echoes.tail else x.echoes) {y : PortState} (hy : y = (x.finish f).choose) :
    y.responses = rs ∧ y.echoes = es ∧ y.requests = x.requests ∧ y.ctr = x.ctr
      ∧ (∀ (r : QResponse) (rest : List QResponse), rs = r :: rest →
        y.sending = some { frame := r.frame, source := .response, landing := r.landing } ∧ y.slots = x.slots)
      ∧ (∀ (e : UpFrame) (rest : List UpFrame), rs = [] → es = e :: rest →
        y.sending = some { frame := e, source := .echo, landing := none } ∧ y.slots = x.slots)
      ∧ (rs = [] → es = [] →
        ((∀ g : GroupIx, x.slots.get g = none) → y.sending = none)
        ∧ ∀ (j : Nat) (g : GroupIx) (u : UpFrame), j < 4 → g.val = (x.nextGroup.val + j) % 4 →
          x.slots.get g = some u →
          (∀ (i : Nat) (h : GroupIx), i < j → h.val = (x.nextGroup.val + i) % 4 → x.slots.get h = none) →
          y.sending = some { frame := u, source := .detached, landing := none }
          ∧ y.slots = x.slots.set g none ∧ y.nextGroup.val = (g.val + 1) % 4) := by
  have hresp : (x.finish f).responses = rs := hrs.symm
  have hecho : (x.finish f).echoes = es := hes.symm
  subst hy
  refine ⟨?_, ?_, ?_, ?_, fun r rest hr => ?_, fun e rest hr he => ?_, fun hr he => ⟨fun hnone => ?_, ?_⟩⟩
  · rw [PortState.choose_responses, hresp]
  · rw [PortState.choose_echoes, hecho]
  · rw [PortState.choose_requests, PortState.finish_requests]
  · rw [PortState.choose_ctr, PortState.finish_ctr]
  · rw [PortState.choose_response (x.finish_sending f) (hresp.trans hr)]
    exact ⟨rfl, rfl⟩
  · rw [PortState.choose_echo (x.finish_sending f) (hresp.trans hr) (hecho.trans he)]
    exact ⟨rfl, rfl⟩
  · rw [PortState.choose_nothing (x.finish_sending f) (hresp.trans hr) (hecho.trans he)
      (PortState.nextSlot_empty hnone)]
    rfl
  · intro j g u hj hg hu hfirst
    have hslot : (x.finish f).nextSlot = some (g, u) := PortState.nextSlot_first hj hg hu hfirst
    rw [PortState.choose_slot (x.finish_sending f) (hresp.trans hr) (hecho.trans he) hslot]
    exact ⟨rfl, rfl, Fin.val_add g 1⟩

/-! ## The completion -/

section Completed

variable {s : State} {p : Port} {levels : Straps} {f : Sending} {bytes : List Byte}

/-- A completion that lands nothing moves the port alone (R181). -/
theorem State.port_sendComplete_next (hs : (s.port p).sending = some f) (hl : f.landing = none) :
    (s.sendComplete p levels).port p = ((s.port p).finish f).choose
      ∧ (s.sendComplete p levels).port (otherPort p) = s.port (otherPort p) := by
  rw [State.sendComplete_next levels hs hl]
  cases p <;> exact ⟨rfl, rfl⟩

/-- A landing resets both ports, and a frame that the other one has begun is sent on (R170). -/
theorem State.port_sendComplete_land {k : ResetKind} (hs : (s.port p).sending = some f) (hl : f.landing = some k) :
    (s.sendComplete p levels).port p = ((s.port p).finish f).land
      ∧ (s.sendComplete p levels).port (otherPort p) = (s.port (otherPort p)).land := by
  rw [State.sendComplete_land levels hs hl]
  cases p <;> exact ⟨rfl, rfl⟩

theorem State.sendComplete_sent (hs : (s.port p).sending = some f) (hb : f.frame.bytes = bytes) :
    ((s.sendComplete p levels).port p).sent = (s.port p).sent ++ [bytes] := by
  rcases hl : f.landing with _ | k
  · rw [(State.port_sendComplete_next hs hl).1, PortState.choose_sent, PortState.finish_sent, hb]
  · rw [(State.port_sendComplete_land hs hl).1, PortState.land_sent, PortState.finish_sent, hb]

theorem State.sendComplete_pins (hs : (s.port p).sending = some f) :
    (s.sendComplete p levels).pins = { s.pins with straps := levels }
      ∧ (s.sendComplete p levels).servoSent = s.servoSent := by
  rcases hl : f.landing with _ | k
  · rw [State.sendComplete_next levels hs hl]
    cases p <;> exact ⟨rfl, rfl⟩
  · rw [State.sendComplete_land levels hs hl]
    cases p <;> exact ⟨rfl, rfl⟩

theorem State.sendComplete_next_frame (hs : (s.port p).sending = some f) (hl : f.landing = none) :
    s.sendComplete p levels = { s with
      pins := (s.sendComplete p levels).pins, portA := (s.sendComplete p levels).portA
      portB := (s.sendComplete p levels).portB } := by
  rw [State.sendComplete_next levels hs hl]
  cases p <;> rfl

theorem State.sendComplete_land_frame {k : ResetKind} {straps : Straps} (hs : (s.port p).sending = some f)
    (hl : f.landing = some k) (hk : straps = match k with | .reload => s.straps | .resample => levels) :
    s.sendComplete p levels = { State.fresh straps (s.sendComplete p levels).pins with
      portA := (s.sendComplete p levels).portA, portB := (s.sendComplete p levels).portB
      servoSent := s.servoSent, freeCount := s.freeCount, pending := s.pending } := by
  rw [State.sendComplete_land levels hs hl, hk]
  cases p <;> cases k <;> rfl

/-- A port after the landing of a part reset: power-on values (R170). -/
theorem PortState.land_fresh (x : PortState) : x.land.requests = [] ∧ x.land.responses = [] ∧ x.land.echoes = []
    ∧ x.land.policy = { policy := .all, defaultTag := 0 } ∧ x.land.nextGroup = 0
    ∧ (∀ g : GroupIx, x.land.slots.get g = none) ∧ (∀ c : ReqClass, x.land.actionFor c = .execute)
    ∧ x.land.ctr = { framesReceived := 0, checkErrors := 0, malformed := 0, admitRefused := 0, unknownTag := 0,
                     unknownClass := 0, classDiscarded := 0, requestOverflow := 0, echoDropped := 0,
                     telemetryReplaced := 0, excessSamples := 0 } :=
  ⟨rfl, rfl, rfl, rfl, rfl, fun _ => Tab.get_fill _ _, fun _ => Tab.get_fill _ _, rfl⟩

end Completed

/-- Settles O57: the bytes of the frame, the choice after it, and the landing that the RESET_PART response carries. -/
theorem upstreamCompletionsSendAndChoose : Obligations.UpstreamCompletionsSendAndChoose := by
  intro s p levels
  refine ⟨fun hs => congrArg _ (State.sendComplete_idle levels hs), fun f bytes hs hb => ?_⟩
  obtain ⟨hpins, hservo⟩ := State.sendComplete_pins (levels := levels) hs
  refine ⟨s.sendComplete p levels, rfl, State.sendComplete_sent hs (UpFrame.bytes_of_body hb), hpins, hservo,
    fun hl => ?_, fun k hl straps hk => ?_⟩
  · obtain ⟨hport, hother⟩ := State.port_sendComplete_next (levels := levels) hs hl
    exact ⟨State.sendComplete_next_frame hs hl, hother, fun rs es hrs hes => PortState.finish_choose f hrs hes hport⟩
  · obtain ⟨hport, hother⟩ := State.port_sendComplete_land (levels := levels) hs hl
    refine ⟨State.sendComplete_land_frame hs hl (by cases k <;> exact hk), fun r => ?_, ?_, ?_⟩
    · rcases eq_or_eq_otherPort p r with rfl | rfl
      · rw [hport]
        exact PortState.land_fresh _
      · rw [hother]
        exact PortState.land_fresh _
    · rw [hport, PortState.land_sending, PortState.finish_sending]
      rfl
    · rw [hother, PortState.land_sending, Option.map_map]
      rfl

end Sys2Proof.Machine
end

section
/-! The state after a reset is safe (R167): each law at the power-on values of its block, at any input levels. -/

namespace Sys2Proof.Machine

/-! ## A group and a port at their power-on values -/

theorem defaultGroup_runLaws : defaultGroup.QueueLaw ∧ defaultGroup.SourceLaw ∧ defaultGroup.ScaleLaw
    ∧ defaultGroup.TallyLaw :=
  ⟨⟨Nat.zero_le _, fun _ => rfl⟩, ⟨fun _ => rfl, fun _ => rfl⟩, by decide, fun _ => rfl⟩

theorem defaultGroup_faultLaws : defaultGroup.RetryLaw ∧ defaultGroup.EpisodeLaw ∧ defaultGroup.OutputLaw
    ∧ defaultGroup.MonitorLaw :=
  ⟨fun h => absurd rfl h, by decide, by decide, by decide⟩

theorem defaultGroup_record : defaultGroup.RecordLaw := by decide

theorem defaultGroup_bounded : defaultGroup.Bounded := by decide

theorem defaultLimitSet_law : defaultLimitSet.Law := by decide

theorem defaultPort_flow : defaultPort.FlowLaw :=
  .of_idle rfl rfl rfl (fun g => Tab.get_fill _ g) fun f hf => by cases hf

/-! ## The laws of a fresh state -/

section Fresh

variable (straps : Straps) (pins : Pins)

/-- A property of the group's power-on values is every group's after a reset. -/
theorem State.fresh_eachGroup {law : Group → Prop} (h : law defaultGroup) : (State.fresh straps pins).EachGroup law :=
  fun g => by rwa [State.fresh_group]

/-- Likewise for the ports. -/
theorem State.fresh_eachPort {law : PortState → Prop} (h : law defaultPort) :
    ∀ x ∈ [(State.fresh straps pins).portA, (State.fresh straps pins).portB], law x := by
  intro x hx
  obtain rfl : x = defaultPort := by simpa [State.fresh] using hx
  exact h

theorem State.fresh_recordLaw : (State.fresh straps pins).RecordLaw := by
  refine ⟨State.fresh_eachGroup straps pins (law := Group.RecordLaw) defaultGroup_record, fun i => ?_,
    State.fresh_eachPort straps pins (law := fun x => x.policy.defaultTag.toNat ≤ 0xFEF) (Nat.zero_le _),
    kindSetOk_default⟩
  have hset : (State.fresh straps pins).limitSets.get i = defaultLimitSet := Tab.get_fill _ i
  rw [hset]
  exact defaultLimitSet_law

theorem State.fresh_bindingLaw : (State.fresh straps pins).BindingLaw := by
  intro g
  rw [State.fresh_group]
  exact ⟨fun _ => rfl, fun i hi => by cases hi⟩

theorem State.fresh_portLaw : (State.fresh straps pins).PortLaw :=
  (State.portLaw_iff _).mpr fun r => by cases r <;> exact ⟨defaultPort_flow, Nat.zero_le _⟩

theorem State.fresh_lockoutLaw : (State.fresh straps pins).LockoutLaw := by
  have hactions (r : Port) (c : ReqClass) : ((State.fresh straps pins).port r).actionFor c = .execute := by
    cases r <;> exact Tab.get_fill _ _
  rw [State.lockoutLaw_iff]
  simp [hactions]

theorem State.fresh_counterLaw : (State.fresh straps pins).CounterLaw :=
  ⟨State.fresh_eachGroup straps pins ((Group.bounded_iff _).mp defaultGroup_bounded),
    (by decide : defaultServoCounters.Law),
    State.fresh_eachPort straps pins (law := fun x => x.ctr.Law) PortCounters.law_default⟩

theorem State.fresh_safe : (State.fresh straps pins).Safe := by
  refine ⟨State.fresh_eachGroup straps pins ?_, State.fresh_recordLaw straps pins, defaultMap_law _,
    State.fresh_bindingLaw straps pins, State.fresh_portLaw straps pins, State.fresh_lockoutLaw straps pins,
    .of_fresh rfl rfl rfl, .of_default _ rfl, (fun hr => nomatch hr), State.fresh_counterLaw straps pins⟩
  obtain ⟨hqueue, hsource, hscale, htally⟩ := defaultGroup_runLaws
  exact ⟨hqueue, hsource, hscale, htally, defaultGroup_faultLaws⟩

end Fresh

/-- Settles O4: `State.reset` is the fresh state at the levels of `resetPins`. -/
theorem safeAfterReset : Obligations.SafeAfterReset :=
  ⟨State.fresh_safe resetPins.straps resetPins, State.fresh_safe⟩

end Sys2Proof.Machine
end

section
/-! The STATS requests (R178): each answers its counter set as it stood, and its clear operand says whether that set
is cleared in the same event. -/

namespace Sys2Proof.Machine

/-! ## The clear operand -/

theorem clearOf_of_le_one {b : Byte} (h : b.toNat ≤ 1) : clearOf b.toNat = some (decide (b = 1)) := by
  rcases Nat.le_one_iff_eq_zero_or_eq_one.mp h with hb | hb
  · obtain rfl : b = 0 := BitVec.eq_of_toNat_eq hb
    rfl
  · obtain rfl : b = 1 := BitVec.eq_of_toNat_eq hb
    rfl

theorem clearOf_of_two_le {n : Nat} (h : 2 ≤ n) : clearOf n = none := by
  match n, h with
  | _ + 2, _ => rfl

/-- How a STATS request is judged once its operands name a set: by its clear operand, with the payload of that set,
the state that leaves the set as it stands and the one that clears it (R178). -/
def statsVerdict (b : Byte) (payload : List Byte) (left cleared : State) : Verdict :=
  match clearOf b.toNat with
  | none => .refuse .badValue
  | some clear => .take false payload (if clear then cleared else left)

theorem statsVerdict_of_le_one {b : Byte} (h : b.toNat ≤ 1) (payload : List Byte) (left cleared : State) :
    statsVerdict b payload left cleared = .take false payload (if b = 1 then cleared else left) := by
  simp only [statsVerdict, clearOf_of_le_one h, decide_eq_true_eq]

theorem statsVerdict_of_two_le {b : Byte} (h : 2 ≤ b.toNat) (payload : List Byte) (left cleared : State) :
    statsVerdict b payload left cleared = .refuse .badValue := by
  simp only [statsVerdict, clearOf_of_two_le h]

/-! ## The four requests -/

section Asked

variable {s : State} {p : Port} {q : Request} {b : Byte}

/-- A row that carries out the verdict of its clear operand takes the request at 0 and 1 and refuses it above. -/
theorem exec_by_clear {row : Instr} {payload : List Byte} {left cleared : State}
    (h : exec row s = .next (s.carryOut p q (statsVerdict b payload left cleared))) :
    (b.toNat ≤ 1 → exec row s = .next (s.carryOut p q (.take false payload (if b = 1 then cleared else left))))
      ∧ (2 ≤ b.toNat → exec row s = .next (s.carryOut p q (.refuse .badValue))) := by
  refine ⟨fun hb => ?_, fun hb => ?_⟩
  · rw [h, statsVerdict_of_le_one hb]
  · rw [h, statsVerdict_of_two_le hb]

theorem State.Asks.second_operand {c : ReqClass} {n : Nat} {a : Byte} (h : s.Asks p q c n [a, b]) :
    natAt8 q.operands 1 = b.toNat := by
  obtain ⟨-, -, -, hops⟩ := h
  rw [hops]
  rfl

@[simp] theorem State.ctr_dequeue (r : Port) : ((s.dequeue p).port r).ctr = (s.port r).ctr := by
  rcases eq_or_eq_otherPort p r with rfl | rfl
  · rw [State.port_dequeue]
  · rw [State.port_dequeue_other]

theorem exec_readPortStats_asks {r : Port} (h : s.Asks p q .stats 1 [BitVec.ofNat 8 (portCode r), b]) :
    exec .readPortStats s = .next (s.carryOut p q (statsVerdict b (s.port r).ctr.payload (s.dequeue p)
      ((s.dequeue p).modPort r fun x => { x with ctr := defaultPortCounters }))) := by
  have hx : exec .readPortStats s = .next (s.carryOut p q (judgeReadPortStats p q (s.dequeue p))) :=
    exec_asks .readPortStats h rfl rfl
  have hr : portOf (natAt8 q.operands 0) = some r := by
    obtain ⟨-, -, -, hops⟩ := h
    rw [hops, natAt8, byteAt_zero, ← portCode_byte, portOf_portCode]
  rw [hx, judgeReadPortStats, hr, h.second_operand, ← State.ctr_dequeue (p := p)]
  rfl

theorem exec_readGroupStats_asks {g : GroupIx} (h : s.Asks p q .stats 2 [BitVec.ofNat 8 g.val, b]) :
    exec .readGroupStats s = .next (s.carryOut p q (statsVerdict b (groupStatsPayload (s.group g)) (s.dequeue p)
      ((s.dequeue p).modGroup g fun x => { x with ctr := defaultGroupCounters }))) := by
  have hx : exec .readGroupStats s = .next (s.carryOut p q (judgeReadGroupStats p q (s.dequeue p))) :=
    exec_asks .readGroupStats h rfl rfl
  rw [hx, judgeReadGroupStats, h.operand_group, h.second_operand, ← s.group_dequeue p]
  rfl

theorem exec_readChannelStats_asks {g : GroupIx} {l : LaneIx}
    (h : s.Asks p q .stats 3 [BitVec.ofNat 8 (6 * g.val + l.val), b]) :
    exec .readChannelStats s = .next (s.carryOut p q (statsVerdict b
      (channelStatsPayload ((s.group g).chans.get l)) (s.dequeue p)
      ((s.dequeue p).modGroup g fun x => x.modChan l fun c => { c with slewClamps := 0, rangeClamps := 0 }))) := by
  have hx : exec .readChannelStats s = .next (s.carryOut p q (judgeReadChannelStats p q (s.dequeue p))) :=
    exec_asks .readChannelStats h rfl rfl
  have hc : channelOf (natAt8 q.operands 0) = some (g, l) := by
    obtain ⟨-, -, -, hops⟩ := h
    rw [hops]
    exact channelOf_ofNat g l
  rw [hx, judgeReadChannelStats, hc, h.second_operand, ← s.group_dequeue p]
  rfl

theorem exec_readServoStats_asks (h : s.Asks p q .stats 4 [b]) :
    exec .readServoStats s = .next (s.carryOut p q (statsVerdict b s.servo.payload (s.dequeue p)
      { s.dequeue p with servo := defaultServoCounters })) := by
  have hx : exec .readServoStats s = .next (s.carryOut p q (judgeReadServoStats p q (s.dequeue p))) :=
    exec_asks .readServoStats h rfl rfl
  have hb : natAt8 q.operands 0 = b.toNat := by
    obtain ⟨-, -, -, hops⟩ := h
    rw [hops]
    rfl
  rw [hx, judgeReadServoStats, hb, ← s.dequeue_servo p]
  rfl

end Asked

theorem channelStatsPayload_bytes (c : Channel) : channelStatsPayload c =
    out32 c.slewClamps ++ out32 c.rangeClamps
      ++ [if c.slewFlag then 1#8 else 0#8, if c.rangeFlag then 1#8 else 0#8] ++ out16 c.persist := by
  rw [channelStatsPayload, List.append_assoc (_ ++ _)]
  rfl

/-- Settles O27: each request carries out the verdict of its clear operand. -/
theorem statsSnapshotsClearOnlyTheirSet : Obligations.StatsSnapshotsClearOnlyTheirSet := by
  intro s p q b
  refine ⟨fun r h => ?_, fun g h => ?_, fun g l h => ?_, fun h => ?_⟩
  case _ => exact exec_by_clear (exec_readPortStats_asks h)
  case _ => exact exec_by_clear (exec_readGroupStats_asks h)
  case _ =>
    rw [← channelStatsPayload_bytes]
    exact exec_by_clear (exec_readChannelStats_asks h)
  case _ => exact exec_by_clear (exec_readServoStats_asks h)

end Sys2Proof.Machine
end

section
/-! A step of the machine: the command at the front of the queue is carried out on the queue's rest, every command is
answered with a next state, and no event touches the queue of commands. -/

namespace Sys2Proof.Machine

/-! ## One step -/

theorem step_cons {s : State} {c : Instr} {rest : List Instr} (h : s.pending = c :: rest) :
    step s = exec c { s with pending := rest } := by
  simp only [step, h]

theorem step_nil {s : State} (h : s.pending = []) : step s = .next s := by
  simp only [step, h]

/-- Settles O1: the step by the queue's front. -/
theorem stepRunsTheFrontCommand : Obligations.StepRunsTheFrontCommand := fun _ _ _ h => step_cons h

/-! ## Every command is answered -/

/-- Each command's meaning is written as a next state: a take, a row that names an event where it comes about, or the
event itself. -/
theorem exec_next (c : Instr) (s : State) : ∃ t : State, exec c s = .next t := by
  cases c <;> exact ⟨_, rfl⟩

/-! ## The queue of commands -/

/-- A sending that completes leaves the queue of commands, also where a part reset lands in it (R170, R181). -/
@[simp] theorem State.sendComplete_pending (s : State) (p : Port) (levels : Straps) :
    (s.sendComplete p levels).pending = s.pending := by
  rcases hs : (s.port p).sending with _ | f
  · rw [State.sendComplete_idle levels hs]
  · rcases hl : f.landing with _ | k
    · rw [State.sendComplete_next levels hs hl]
      exact s.modPort_pending p _
    · rw [State.sendComplete_land levels hs hl]
      exact s.modPort_pending p _

theorem State.FrameFate.pending {s t : State} {p : Port} (h : s.FrameFate p t) : t.pending = s.pending := by
  rw [h.frame]

theorem State.Effect.pending {s t : State} {p : Port} (h : s.Effect p t) : t.pending = s.pending := by
  cases h with
  | policy r | actions r | portCounters r => exact s.modPort_pending r _
  | _ => rfl

/-- No event touches the queue of commands. -/
theorem State.Event.pending {s t : State} (h : s.Event t) : t.pending = s.pending := by
  cases h with
  | idle | powerOn | opening | closing => rfl
  | frame p bs => exact (State.ingress_fate _ p bs).pending.trans (s.modPort_pending p _)
  | refused p q st => exact s.carryOut_refuse_pending p q st
  | taken k p q a pl u hn hk hv =>
    calc (s.carryOut p q (.take a pl u)).pending
      _ = u.pending := s.carryOut_take_pending u p q a pl
      _ = (s.dequeue p).pending := (judge_effect k hv).pending
      _ = s.pending := s.dequeue_pending p
  | playout g => exact s.playout_pending g
  | feedback bs => rw [State.feedback_frame]
  | tick u => rw [State.tick_frame]
  | sendComplete p levels => exact s.sendComplete_pending p levels

/-- Settles O2: every command is answered with the outcome of an event, and no event touches the queue. -/
theorem everyCommandAnswersAndTheEmptyQueueIdles : Obligations.EveryCommandAnswersAndTheEmptyQueueIdles := by
  refine ⟨fun c s => ?_, fun _ h => step_nil h⟩
  obtain ⟨t, ht⟩ := exec_next c s
  exact ⟨t, ht, (exec_event ht).pending⟩

end Sys2Proof.Machine
end
